-- ==== Sys2Proof/Word.lean ====
section
/-! DEFINITION. The word and byte of the strand line (R147) and the strand numbers (file 00, Numbering). -/

namespace Sys2Proof

/-- A 16-bit word of the strand line (file 00, Pins; R147). -/
abbrev Word := BitVec 16

/-- Half a word: a kind, a slot number, a node number (R147). -/
abbrev Byte := BitVec 8

/-- A strand number 0 to 7 (file 00, Numbering). -/
abbrev StrandId := Fin 8

/-- A cooling table number 0 to 15 (file 00, Numbering). -/
abbrev TableId := Fin 16

/-- A profile number 0 to 31 (file 00, Numbering). -/
abbrev ProfileId := Fin 32

/-- One value for each spray zone 1 to 4 (file 00, Numbering). -/
structure Zones (α : Type) where
  z1 : α
  z2 : α
  z3 : α
  z4 : α
deriving DecidableEq, Repr

end Sys2Proof
end

