-- ==== Sys2Proof/Syntax.lean ====
section
/-! DEFINITION. The commands: one constructor of `Instr` for each row of spec/opcode_table.json, with the row's operands. -/

namespace Sys2Proof

/-- A beat source (R115): LINE, PULSE and LOCAL. -/
inductive Source where
  | line
  | pulse
  | localGen
deriving DecidableEq, Repr

/-- The positions of the KEY line (file 00, Pins). -/
inductive KeyPos where
  | run
  | maintenance
deriving DecidableEq, Repr

/-- A frame of the strand line, less its length byte and check word, which follow from the rest (R147).
`low` is the low byte of word 0: slot number, destination node, or 0. -/
structure Frame where
  kind : Byte
  low : Byte
  origin : Byte
  payload : List Word
deriving DecidableEq, Repr

/-- What every request frame carries beside its code and parameters: the node that sent it and its tag (R157). -/
structure ReqHead where
  origin : Byte
  tag : Word
deriving DecidableEq, Repr

/-- A supervised input: the level or the speed feedback input of a strand, or the plant input (R72, R73). -/
inductive InputId where
  | level (s : StrandId)
  | feedback (s : StrandId)
  | plant
deriving DecidableEq, Repr

/-- The commands of the part, one for each row of spec/opcode_table.json, in the table's order.

A request carries its `ReqHead` and its parameter words as they stand in the request payload (R157); it is addressed to the
part and has passed the check word. A frame row carries the frame that arrived on UP. A time `t` is the reading, in
microseconds, of the reference oscillator at the event (log entry 7). -/
inductive Instr where
  | powerOnReset
  | startUpLoadDone (t : Nat)
  | warmReset
  | partReset (q : ReqHead)
  | track (q : ReqHead) (s : Word)
  | untrack (q : ReqHead) (s : Word)
  | start (q : ReqHead) (s p shadow : Word)
  | hold (q : ReqHead) (s : Word)
  | release (q : ReqHead) (s : Word)
  | clearTrip (q : ReqHead) (s : Word)
  | readContext (q : ReqHead) (s : Word)
  | setArbiter (q : ReqHead) (mode : Word) (priorities : Vector Word 8)
  | coolPin (q : ReqHead) (s t : Word)
  | changeBegin (q : ReqHead)
  | changeCancel (q : ReqHead)
  | swapConfirm (q : ReqHead)
  | sourceSelect (q : ReqHead) (n keep : Word)
  | sourceCancel (q : ReqHead)
  | sourceFreeze (q : ReqHead)
  | setBeatPeriod (q : ReqHead) (p : Word) (t : Nat)
  | failClear (q : ReqHead)
  | handback (q : ReqHead) (s : Word)
  | setNode (q : ReqHead) (n : Word)
  | setSlotBase (q : ReqHead) (b : Word)
  | setStrandMask (q : ReqHead) (m : Word)
  | tableOpen (q : ReqHead)
  | tableClose (q : ReqHead)
  | tableWriteSegment (q : ReqHead) (index : Word) (fields : List Word)
  | tableWriteProfile (q : ReqHead) (index : Word) (fields : List Word)
  | tableWriteCooling (q : ReqHead) (index : Word) (fields : List Word)
  | tableWritePlant (q : ReqHead) (index : Word) (fields : List Word)
  | tableWriteLimits (q : ReqHead) (index : Word) (fields : List Word)
  | tableRead (q : ReqHead) (kind index : Word)
  | commit (q : ReqHead)
  | commitDone
  | protectSet (q : ReqHead) (range cooling lock : Word) (key : KeyPos)
  | limitsLock (q : ReqHead)
  | lockDone
  | alarmPop (q : ReqHead) (n : Word)
  | countersRead (q : ReqHead) (flags : Word)
  | watch (q : ReqHead) (s : Word)
  | unknownRequest (f : Frame)
  | badCheckFrame (words : List Word)
  | ownFrameReturn (f : Frame)
  | passThroughFrame (f : Frame)
  | malformedFrame (f : Frame)
  | beatFrame (f : Frame) (t : Nat)
  | pulseEdge (t : Nat)
  | localExpiry
  | sourceSilent (src : Source)
  | switchComplete (t : Nat)
  | blendComplete (s : StrandId)
  | starved (s : StrandId)
  | deficit
  | inputSilence (i : InputId)
  | sensorSample (f : Frame)
  | levelFrozen (s : StrandId)
  | inputClear (i : InputId)
  | levelTrip (s : StrandId)
  | plantSample (f : Frame)
  | dipWindowExpiry
  | loweringWindowExpiry
  | swapWindowExpiry
  | followTrip (s : StrandId)
  | masterActuatorFrame (f : Frame)
  | statusSlotFrame (f : Frame)
  | originate (s : StrandId)
  | retiredNodeClear
deriving DecidableEq, Repr

end Sys2Proof
end

