-- ==== Sys2Proof/Decode.lean ====
section
/-! DEFINITION. Reading and writing the strand line: the frame layout and check word (R147), the request catalogue (R157, R161), and the host's `decodeTableWord`. -/

namespace Sys2Proof

/-- The high byte of a word. -/
def Word.hi (w : Word) : Byte := w.extractLsb' 8 8

/-- The low byte of a word. -/
def Word.lo (w : Word) : Byte := w.extractLsb' 0 8

/-- A word from its high and low bytes. -/
def Word.ofBytes (hi lo : Byte) : Word := hi ++ lo

/-- One bit into the check register: polynomial 0x1021, most significant bit first (R147). -/
def crcBit (crc : Word) (b : Bool) : Word :=
  if crc.msb = b then crc <<< 1 else (crc <<< 1) ^^^ 0x1021#16

/-- One word into the check register, most significant bit first (R147). -/
def crcWord (crc w : Word) : Word :=
  (List.range 16).foldl (fun c i => crcBit c (w.getMsbD i)) crc

/-- The check word of a frame's other words: CRC-16, initial value 0xFFFF, no final inversion (R147). -/
def crc16 (ws : List Word) : Word := ws.foldl crcWord 0xFFFF#16

/-- Word 0 to the last payload word of a frame, as they stand on the line (R147). -/
def Frame.body (f : Frame) : List Word :=
  Word.ofBytes f.kind f.low :: Word.ofBytes f.origin (BitVec.ofNat 8 f.payload.length) :: f.payload

/-- The words of a frame on the line, its check word last (R147). -/
def Frame.wire (f : Frame) : List Word := f.body ++ [crc16 f.body]

/-- The frame that words on the line spell: `none` where the length lies above 16, the words are not as many as the
length gives, or the check is bad (R147, R148; log entry 23). -/
def Frame.ofWire : List Word → Option Frame
  | w0 :: w1 :: rest =>
    let n := (Word.lo w1).toNat
    if n ≤ 16 ∧ rest.length = n + 1 ∧ rest.getLast? = some (crc16 (w0 :: w1 :: rest.take n)) then
      some { kind := Word.hi w0, low := Word.lo w0, origin := Word.hi w1, payload := rest.take n }
    else none
  | _ => none

/-- What a request payload says before the owning rule is asked (R157, general checks 1 and 2; R161). -/
inductive RequestReading where
  /-- fewer than two words, or a known code with another length than the catalogue gives: LENGTH -/
  | wrongLength (code tag : Word)
  /-- a code the catalogue does not hold: UNKNOWN -/
  | unknown (code tag : Word)
  /-- a request of the catalogue at its right length -/
  | command (i : Instr)
  /-- a TABLE_WRITE whose kind is none of 0 to 4 (R161): no row of the table stands for it -/
  | writeOfNoKind (q : ReqHead)
deriving DecidableEq, Repr

/-- How many field words a TABLE_WRITE of this kind and index carries; `none` where kind or index sets no length (R161). -/
def tableFieldCount (kind : Nat) (index : Word) : Option Nat :=
  match kind with
  | 0 => some 7
  | 1 => some 10
  | 2 => some 5
  | 3 => if index = 0 then some 10 else if index = 1 then some 5 else none
  | 4 => if index = 0 then some 5 else if index = 1 then some 12 else none
  | _ => none

/-- The fields have the length that kind and index set, where they set one (R161). -/
def tableLengthOk (kind : Nat) (index : Word) (fields : List Word) : Bool :=
  match tableFieldCount kind index with
  | some n => fields.length = n
  | none => true

/-- A TABLE_WRITE from its kind, index and field words (R161). -/
def readTableWrite (q : ReqHead) (kind index : Word) (fields : List Word) : RequestReading :=
  if tableLengthOk kind.toNat index fields then
    match kind.toNat with
    | 0 => .command (.tableWriteSegment q index fields)
    | 1 => .command (.tableWriteProfile q index fields)
    | 2 => .command (.tableWriteCooling q index fields)
    | 3 => .command (.tableWritePlant q index fields)
    | 4 => .command (.tableWriteLimits q index fields)
    | _ => .writeOfNoKind q
  else .wrongLength 25 q.tag

/-- A request from its code, tag and parameters (the catalogue of R157). The arrival time `t` and the KEY level are what the
frame does not carry. -/
def readRequest (q : ReqHead) (t : Nat) (key : KeyPos) (code : Word) (ps : List Word) : RequestReading :=
  match code.toNat, ps with
  | 1, [s] => .command (.track q s)
  | 2, [s] => .command (.untrack q s)
  | 3, [s, p, shadow] => .command (.start q s p shadow)
  | 4, [s] => .command (.hold q s)
  | 5, [s] => .command (.release q s)
  | 6, [s] => .command (.clearTrip q s)
  | 7, [s] => .command (.readContext q s)
  | 8, [mode, a, b, c, d, e, f, g, h] => .command (.setArbiter q mode #v[a, b, c, d, e, f, g, h])
  | 9, [s, table] => .command (.coolPin q s table)
  | 10, [] => .command (.changeBegin q)
  | 11, [] => .command (.changeCancel q)
  | 12, [] => .command (.swapConfirm q)
  | 13, [n, keep] => .command (.sourceSelect q n keep)
  | 14, [] => .command (.sourceCancel q)
  | 15, [] => .command (.sourceFreeze q)
  | 16, [p] => .command (.setBeatPeriod q p t)
  | 17, [] => .command (.failClear q)
  | 18, [s] => .command (.handback q s)
  | 19, [n] => .command (.setNode q n)
  | 20, [b] => .command (.setSlotBase q b)
  | 21, [m] => .command (.setStrandMask q m)
  | 22, [] => .command (.partReset q)
  | 23, [] => .command (.tableOpen q)
  | 24, [] => .command (.tableClose q)
  | 25, kind :: index :: fields => readTableWrite q kind index fields
  | 26, [kind, index] => .command (.tableRead q kind index)
  | 27, [] => .command (.commit q)
  | 28, [range, cooling, lock] => .command (.protectSet q range cooling lock key)
  | 29, [] => .command (.limitsLock q)
  | 30, [n] => .command (.alarmPop q n)
  | 31, [flags] => .command (.countersRead q flags)
  | 32, [s] => .command (.watch q s)
  | n, _ => if 1 ≤ n ∧ n ≤ 32 then .wrongLength code q.tag else .unknown code q.tag

/-- What a REQ frame's payload asks; a missing code or tag reads as 0 (R157). -/
def decodeRequest (origin : Byte) (t : Nat) (key : KeyPos) : List Word → RequestReading
  | code :: tag :: ps => readRequest ⟨origin, tag⟩ t key code ps
  | [code] => .wrongLength code 0
  | [] => .wrongLength 0 0

/-- The requester of a request row; `none` for the rows that are no requests. -/
def Instr.head : Instr → Option ReqHead
  | .partReset q | .track q _ | .untrack q _ | .start q _ _ _ | .hold q _ | .release q _ | .clearTrip q _ | .readContext q _
  | .setArbiter q _ _ | .coolPin q _ _ | .changeBegin q | .changeCancel q | .swapConfirm q | .sourceSelect q _ _
  | .sourceCancel q | .sourceFreeze q | .setBeatPeriod q _ _ | .failClear q | .handback q _ | .setNode q _ | .setSlotBase q _
  | .setStrandMask q _ | .tableOpen q | .tableClose q | .tableWriteSegment q _ _ | .tableWriteProfile q _ _
  | .tableWriteCooling q _ _ | .tableWritePlant q _ _ | .tableWriteLimits q _ _ | .tableRead q _ _ | .commit q
  | .protectSet q _ _ _ _ | .limitsLock q | .alarmPop q _ | .countersRead q _ | .watch q _ => some q
  | _ => none

/-- The code and parameter words of a request row (the catalogue of R157); `none` for the rows that are no requests. -/
def Instr.codeAndParams : Instr → Option (Word × List Word)
  | .track _ s => some (1, [s])
  | .untrack _ s => some (2, [s])
  | .start _ s p shadow => some (3, [s, p, shadow])
  | .hold _ s => some (4, [s])
  | .release _ s => some (5, [s])
  | .clearTrip _ s => some (6, [s])
  | .readContext _ s => some (7, [s])
  | .setArbiter _ mode pr => some (8, [mode, pr[0], pr[1], pr[2], pr[3], pr[4], pr[5], pr[6], pr[7]])
  | .coolPin _ s t => some (9, [s, t])
  | .changeBegin _ => some (10, [])
  | .changeCancel _ => some (11, [])
  | .swapConfirm _ => some (12, [])
  | .sourceSelect _ n keep => some (13, [n, keep])
  | .sourceCancel _ => some (14, [])
  | .sourceFreeze _ => some (15, [])
  | .setBeatPeriod _ p _ => some (16, [p])
  | .failClear _ => some (17, [])
  | .handback _ s => some (18, [s])
  | .setNode _ n => some (19, [n])
  | .setSlotBase _ b => some (20, [b])
  | .setStrandMask _ m => some (21, [m])
  | .partReset _ => some (22, [])
  | .tableOpen _ => some (23, [])
  | .tableClose _ => some (24, [])
  | .tableWriteSegment _ index fields => some (25, 0 :: index :: fields)
  | .tableWriteProfile _ index fields => some (25, 1 :: index :: fields)
  | .tableWriteCooling _ index fields => some (25, 2 :: index :: fields)
  | .tableWritePlant _ index fields => some (25, 3 :: index :: fields)
  | .tableWriteLimits _ index fields => some (25, 4 :: index :: fields)
  | .tableRead _ kind index => some (26, [kind, index])
  | .commit _ => some (27, [])
  | .protectSet _ range cooling lock _ => some (28, [range, cooling, lock])
  | .limitsLock _ => some (29, [])
  | .alarmPop _ n => some (30, [n])
  | .countersRead _ flags => some (31, [flags])
  | .watch _ s => some (32, [s])
  | _ => none

/-- The payload of the REQ frame that asks for a request row (R157). -/
def Instr.requestPayload (i : Instr) : Option (List Word) :=
  match i.head, i.codeAndParams with
  | some q, some (code, ps) => some (code :: q.tag :: ps)
  | _, _ => none

/-- The table gives no row any bits, so no word spells a command. -/
def decodeTableWord (_nbits _w : Nat) : Option Instr := none

end Sys2Proof
end

