-- ==== Sys2Proof/Config.lean ====
section
/-! DEFINITION. The free values: what the spec leaves open, as constants without a body, so that nothing can be proved of the value they take. -/

namespace Sys2Proof

/-- The blocks that take a beat of the current source, each as an event of its own (R119). -/
inductive Block where
  | sequencer
  | arbiter
  | inputMonitor
  | changeCoordinator
  | dipMonitor
  | lineInterface
deriving DecidableEq, Repr

/-- FREE VALUE. The rank of a block at the n-th delivered beat: the blocks take the beat in rising rank (R119: "either
order's outcome may occur"; log entry 4). -/
opaque Config.blockRank : Nat → Block → Nat

/-- Where inside one event several strands are reached in an order no rule gives (log entry 5). -/
inductive OrderSite where
  | followTrips
  | blendSteps
  | completions
deriving DecidableEq, Repr

/-- FREE VALUE. The rank of a strand at a site of the n-th delivered beat: the strands are reached in rising rank (log entry 5). -/
opaque Config.strandRank : Nat → OrderSite → StrandId → Nat

end Sys2Proof
end

