-- ==== Sys2Proof/Machine/State.lean ====
section
/-! DEFINITION. The state of the part as plain data: every record the spec's chapters name, and its values after a power-on reset. -/

namespace Sys2Proof.Machine

/-! ## Profiles, tables and configuration (chapters 2, 3 and 10) -/

/-- A segment index of a strand context or the next of a segment: 0 to 7, or END (R1, R29). -/
inductive SegIndex where
  | seg (n : Fin 8)
  | atEnd
deriving DecidableEq, Repr

/-- A segment record (R29). -/
structure Segment where
  used : Bool
  target : Nat
  rate : Nat
  minDwell : Nat
  confirm : Bool
  cooling : Option TableId
  next : SegIndex
deriving DecidableEq, Repr

/-- What a profile does when its last segment completes (R28). -/
inductive EndAction where
  | stay
  | handback
deriving DecidableEq, Repr

/-- A profile record (R28). -/
structure Profile where
  valid : Bool
  first : Fin 8
  cooling : TableId
  holdBand : Nat
  releaseBand : Nat
  tripBand : Nat
  tripCount : Nat
  reentry : Fin 8
  endAction : EndAction
  tag : Nat
deriving DecidableEq, Repr

/-- One zone of a cooling table (R48). -/
structure CoolZone where
  coef : Nat
  offset : Nat
  tableMin : Nat
  tableMax : Nat
deriving DecidableEq, Repr

/-- A cooling table (R48). -/
structure CoolTable where
  valid : Bool
  zones : Zones CoolZone
deriving DecidableEq, Repr

/-- The plant table, its parts 0 and 1 in word order (R162). -/
structure Plant where
  changeSpeed : Nat
  changeRate : Nat
  loweringWindow : Nat
  swapThreshold : Nat
  releaseThreshold : Nat
  swapWindow : Nat
  dipWindow : Nat
  starvationLimit : Nat
  deficitLimit : Nat
  blendBeats : Nat
  lossWindow : Nat
  frozenCount : Nat
  clearCount : Nat
  lossSubstitute : Nat
  globalTable : Option TableId
deriving DecidableEq, Repr

/-- Part 0 of the limits table (R162). -/
structure LimitsSpeed where
  maxSpeed : Nat
  maxRate : Nat
  reserve : Nat
  followBand : Nat
  followCount : Nat
deriving DecidableEq, Repr

/-- Part 1 of the limits table (R162). -/
structure LimitsFlow where
  floor : Zones Nat
  ceiling : Zones Nat
  trip : Zones Nat
deriving DecidableEq, Repr

/-- A complete limits table (R162). -/
structure Limits where
  speed : LimitsSpeed
  flow : LimitsFlow
deriving DecidableEq, Repr

/-- The arbiter order (R67). -/
inductive ArbiterMode where
  | fixed
  | rotating
deriving DecidableEq, Repr

/-- The stored configuration (R159): node number, slot base and strand mask with their presence, arbiter mode and
priorities, start-up source, beat period in ms, and the protection settings. -/
structure StoredConfig where
  node : Byte
  slotBase : Option Nat
  mask : Option Byte
  mode : ArbiterMode
  priorities : Vector Nat 8
  startSource : Source
  period : Nat
  rangeCode : Nat
  coolingFlag : Bool
  protectLock : Bool
deriving DecidableEq, Repr

/-- The contents of the working image and of a stored image (R159). The limits table has a presence for each part (R162). -/
structure Image where
  profiles : Vector Profile 32
  segments : Vector (Vector Segment 8) 32
  tables : Vector CoolTable 16
  plant : Plant
  limitsSpeed : Option LimitsSpeed
  limitsFlow : Option LimitsFlow
  config : StoredConfig
deriving DecidableEq, Repr

/-- A store operation in progress, with what it writes as it stood at acceptance (R165, R166). -/
inductive StoreOp where
  | idle
  | commit (image : Image)
  | lock (limits : Limits)
deriving DecidableEq, Repr

/-! ## The records of a strand (chapters 1, 3, 4, 5, 8 and 9) -/

/-- The strand states (R4). -/
inductive StrandState where
  | passive
  | tracking
  | ramping
  | holding
  | handback
  | tripped
deriving DecidableEq, Repr

/-- The hold reasons (R1, R15). -/
inductive Reason where
  | level
  | sensor
  | beat
  | command
  | change
  | dip
deriving DecidableEq, Repr

/-- A hold set: each reason is in it or not; no order and no count (R15). -/
structure HoldSet where
  level : Bool := false
  sensor : Bool := false
  beat : Bool := false
  command : Bool := false
  change : Bool := false
  dip : Bool := false
deriving DecidableEq, Repr

/-- The trip causes (R1). -/
inductive Cause where
  | breakout
  | level
  | follow
  | changeLate
  | swapTimeout
  | dipLong
deriving DecidableEq, Repr

/-- A strand context (R1). The defaults are the PASSIVE column of R2 with release pending false. -/
structure Context where
  state : StrandState := .passive
  shadow : Bool := false
  profile : Option ProfileId := none
  segment : Option SegIndex := none
  acc : Nat := 0
  target : Option Nat := none
  rate : Option Nat := none
  dwell : Nat := 0
  confirmSeen : Bool := false
  hold : HoldSet := {}
  starved : Bool := false
  starvedCount : Nat := 0
  cause : Option Cause := none
  levelExcess : Nat := 0
  followCount : Nat := 0
  reseed : Bool := false
  enrolled : Bool := false
  releasePending : Bool := false
deriving DecidableEq, Repr

/-- A handback record (R132). -/
structure Handback where
  startSpeed : Nat
  startFlows : Zones Nat
  k : Nat
  n : Nat
  claim : Bool
deriving DecidableEq, Repr

/-- A grant record or shadow grant record (R57). The defaults are the clear record. -/
structure Grant where
  speed : Nat := 0
  table : Option TableId := none
  flows : Zones Nat := ⟨0, 0, 0, 0⟩
  demand : Nat := 0
deriving DecidableEq, Repr

/-- An observed record: what the master last wrote for the strand (R153). -/
structure Observed where
  speed : Nat
  flows : Zones Nat
  claim : Bool
deriving DecidableEq, Repr

/-- Why an input entered LOSS (R72). -/
inductive LossCause where
  | silent
  | frozen
deriving DecidableEq, Repr

/-- The loss states of an input; the cause is present in LOSS alone (R72, R73). -/
inductive LossState where
  | nodata
  | valid
  | loss (c : LossCause)
deriving DecidableEq, Repr

/-- What every supervised input keeps (R72, R73). The defaults are the reset values of R90. -/
structure Input where
  loss : LossState := .nodata
  since : Nat := 0
  clearRun : Nat := 0
deriving DecidableEq, Repr

/-- A strand input record (R72). The defaults are the reset values of R90. -/
structure StrandInput where
  level : Option Int := none
  feedback : Option Nat := none
  breakout : Bool := false
  seq : Option Word := none
  lvl : Input := {}
  fb : Input := {}
  identical : Nat := 0
  varied : Bool := false
deriving DecidableEq, Repr

/-- The plant input record (R73). The defaults are the reset values of R90. -/
structure PlantInput where
  weight : Option Nat := none
  capacity : Option Nat := none
  dip : Bool := false
  seq : Option Word := none
  inp : Input := {}
deriving DecidableEq, Repr

/-- Everything the blocks keep for one strand: context (R1), handback record (R132), grant and shadow grant records (R57),
cooling pin (R51), observed record (R153), claim answer due (R141), silence count and originating flag (R155), input record
(R72), and the strand's entry of the enrolled set with its low mark (R91). The defaults are the power-on reset values. -/
structure Strand where
  ctx : Context := {}
  blend : Option Handback := none
  grant : Grant := {}
  shadowGrant : Grant := {}
  pin : Option TableId := none
  observed : Option Observed := none
  claimDue : Bool := false
  silence : Nat := 0
  originating : Bool := false
  input : StrandInput := {}
  mark : Option Nat := none
deriving DecidableEq, Repr

/-! ## The other blocks (chapters 5, 6, 7, 9 and 11) -/

/-- The coordinator states (R91). -/
inductive ChangeState where
  | clear
  | lowering
  | atLow
  | swap
deriving DecidableEq, Repr

/-- The dip states (R105). -/
inductive DipState where
  | normal
  | dipped
deriving DecidableEq, Repr

/-- A lock monitor (R117) with its report of silence (R118). `ref` is the time of the last beat, or of the restart while
there is no last beat: the point the 3P interval runs from. -/
structure Monitor where
  locked : Bool := false
  run : Nat := 0
  ref : Nat := 0
  hasLast : Bool := false
  silent : Bool := false
deriving DecidableEq, Repr

/-- The retired node number and the beats delivered since the change (R149). -/
structure Retired where
  node : Byte
  beats : Nat
deriving DecidableEq, Repr

/-- The alarm kinds (R168). -/
inductive AlarmKind where
  | trip
  | shadowTrip
  | starved
  | deficit
  | loss
  | lossClear
  | breakoutSeen
  | beatFail
  | switchDone
  | change
  | dipBegin
  | dipEnd
  | claim
  | profileEnd
  | handbackDone
  | originate
  | commitDone
  | lockDone
  | storeIncomplete
deriving DecidableEq, Repr

/-- An alarm record (R168). -/
structure Alarm where
  stamp : BitVec 32
  kind : AlarmKind
  strand : Option StrandId
  detail : Nat
deriving DecidableEq, Repr

/-- The fourteen counters (R170). -/
structure Counters where
  badCheck : Nat := 0
  malformed : Nat := 0
  badRequest : Nat := 0
  alarmOverflow : Nat := 0
  irregularBeats : Nat := 0
  claimsRefused : Nat := 0
  trips : Vector Nat 8 := Vector.replicate 8 0
deriving DecidableEq, Repr

/-- Why the part stops: it never does. No rule of the spec gives the part a fault, so the type has no constructor. -/
inductive Fault where
deriving DecidableEq, Repr

/-- Why a command is refused by the model. -/
inductive Refusal where
  /-- Raised by an arm of `exec` for a row that has no meaning yet; no arm raises it now. Safe: the model stops. -/
  | notModelled (mnemonic : String)
deriving DecidableEq, Repr

/-- The state of the part (spec chapters 1 to 11), the queue of waiting commands (log entry 1), and the index of the next
free value (log entry 6). -/
structure State where
  /-- commands waiting, first in, first out -/
  pending : List Instr
  /-- words of the frames sent on DOWN, oldest frame first (R147; log entry 14) -/
  down : List (List Word)
  /-- KEY line (file 00, Pins; log entry 13) -/
  key : KeyPos
  /-- latest reading of the reference oscillator, in microseconds (R115; log entry 7) -/
  now : Nat
  /-- index of the next free value; the model's own (log entry 6) -/
  fresh : Nat
  /-- start-up load in progress (R158, R167) -/
  loading : Bool
  /-- records of the strands 0 to 7 -/
  strands : Vector Strand 8
  /-- retired node number (R149) -/
  retired : Option Retired
  /-- plant input record (R73) -/
  plantIn : PlantInput
  /-- rotation pointer p (R67) -/
  pointer : Fin 8
  /-- B of the most recent admission pass (R56) -/
  budget : Nat
  /-- deficit count (R71) -/
  deficit : Nat
  /-- coordinator state (R91) -/
  change : ChangeState
  /-- lowering count (R91) -/
  loweringCount : Nat
  /-- swap count (R91) -/
  swapCount : Nat
  /-- dip state (R105) -/
  dip : DipState
  /-- dip count (R105) -/
  dipCount : Nat
  /-- current source (R115) -/
  current : Source
  /-- pending target (R115) -/
  switchTo : Option Source
  /-- fail flag (R115) -/
  fail : Bool
  /-- freeze flag (R115) -/
  freeze : Bool
  /-- beat counter (R115) -/
  beats : BitVec 32
  /-- lock monitor of LINE (R117) -/
  lineMon : Monitor
  /-- lock monitor of PULSE (R117) -/
  pulseMon : Monitor
  /-- next expiry of the local generator; `none` before it is started (R116, R130) -/
  localNext : Option Nat
  /-- working image (R159) -/
  working : Image
  /-- stored image; `none` while blank (R159) -/
  stored : Option Image
  /-- INCOMPLETE marker of the stored image (R159) -/
  incomplete : Bool
  /-- one-time area; a table in it is locked (R159) -/
  oneTime : Option Limits
  /-- edit latch open (R160) -/
  latchOpen : Bool
  /-- store operation in progress (R165, R166) -/
  op : StoreOp
  /-- alarm queue, oldest first (R168) -/
  alarms : List Alarm
  /-- counters (R170) -/
  counters : Counters
  /-- watch selection (R171) -/
  watch : Option StrandId
deriving DecidableEq, Repr

/-! ## Values after a power-on reset -/

/-- The default segment record (R31). -/
def defaultSegment : Segment :=
  { used := false, target := 0, rate := 1, minDwell := 0, confirm := false, cooling := none, next := .atEnd }

/-- The default profile record (R31). -/
def defaultProfile : Profile :=
  { valid := false, first := 0, cooling := 0, holdBand := 0, releaseBand := 0, tripBand := 0, tripCount := 1, reentry := 0,
    endAction := .stay, tag := 0 }

/-- A zone of the default cooling table (R48). -/
def defaultZone : CoolZone := { coef := 0, offset := 0, tableMin := 0, tableMax := 4000 }

/-- The default cooling table (R48). -/
def defaultTable : CoolTable := { valid := false, zones := ⟨defaultZone, defaultZone, defaultZone, defaultZone⟩ }

/-- The default plant table (R162). -/
def defaultPlant : Plant :=
  { changeSpeed := 500, changeRate := 64, loweringWindow := 3000, swapThreshold := 50, releaseThreshold := 150,
    swapWindow := 9000, dipWindow := 1500, starvationLimit := 500, deficitLimit := 100, blendBeats := 50, lossWindow := 10,
    frozenCount := 50, clearCount := 5, lossSubstitute := 0, globalTable := none }

/-- The default stored configuration (R167). -/
def defaultConfig : StoredConfig :=
  { node := 254, slotBase := none, mask := none, mode := .rotating, priorities := Vector.replicate 8 2, startSource := .line,
    period := 10, rangeCode := 0, coolingFlag := false, protectLock := false }

/-- The default image (R167). -/
def defaultImage : Image :=
  { profiles := Vector.replicate 32 defaultProfile, segments := Vector.replicate 32 (Vector.replicate 8 defaultSegment),
    tables := Vector.replicate 16 defaultTable, plant := defaultPlant, limitsSpeed := none, limitsFlow := none,
    config := defaultConfig }

/-- The part right after a power-on reset, at the beginning of the start-up load (R3, R69, R90, R91, R105, R130, R158, R160,
R167, R168, R170, R171), its storage never written (log entry 12). -/
def State.reset : State :=
  { pending := [], down := [], key := .run, now := 0, fresh := 0, loading := true, strands := Vector.replicate 8 {},
    retired := none, plantIn := {}, pointer := 0, budget := 0, deficit := 0, change := .clear, loweringCount := 0,
    swapCount := 0, dip := .normal, dipCount := 0, current := .localGen, switchTo := none, fail := false, freeze := false,
    beats := 0, lineMon := {}, pulseMon := {}, localNext := none, working := defaultImage, stored := none,
    incomplete := false, oneTime := none, latchOpen := false, op := .idle, alarms := [], counters := {}, watch := none }

end Sys2Proof.Machine
end

