-- ==== Sys2Proof/Machine/Ops.lean ====
section
/-! DEFINITION. The named operations the meanings share: strand records, hold sets, changes of strand state, alarms and counters, the images, and frames on DOWN. -/

namespace Sys2Proof

/-- The sum over the four zones. -/
def Zones.sum (z : Zones Nat) : Nat := z.z1 + z.z2 + z.z3 + z.z4

/-- A zone-wise function of three zone values. -/
def Zones.map3 {α β γ δ : Type} (f : α → β → γ → δ) (a : Zones α) (b : Zones β) (c : Zones γ) : Zones δ :=
  ⟨f a.z1 b.z1 c.z1, f a.z2 b.z2 c.z2, f a.z3 b.z3 c.z3, f a.z4 b.z4 c.z4⟩

/-- The four values as a list, zone 1 first. -/
def Zones.toList {α : Type} (z : Zones α) : List α := [z.z1, z.z2, z.z3, z.z4]

/-- The code of a beat source (R115). -/
def Source.code : Source → Nat
  | .line => 0
  | .pulse => 1
  | .localGen => 2

end Sys2Proof

namespace Sys2Proof.Machine

/-- What a meaning answers. -/
abbrev Outcome := Host.Outcome State Fault Refusal

/-! ## Counts and orders -/

/-- Counters saturate at 65535 (file 00, Counters and flags). -/
def sat16 (n : Nat) : Nat := min n 65535

/-- One more, saturating at 65535. -/
def satInc (n : Nat) : Nat := sat16 (n + 1)

/-- All strands in strand number order. -/
def strandIds : List StrandId := [0, 1, 2, 3, 4, 5, 6, 7]

/-- Insert an element into a list in rising rank, before those of its own rank. -/
def insertBy {α : Type} (rank : α → Nat) (x : α) : List α → List α
  | [] => [x]
  | y :: ys => if rank x ≤ rank y then x :: y :: ys else y :: insertBy rank x ys

/-- A list in rising rank; elements of one rank keep their order. -/
def orderBy {α : Type} (rank : α → Nat) : List α → List α
  | [] => []
  | x :: xs => insertBy rank x (orderBy rank xs)

/-- A step taken for each strand of a list in turn. -/
def forStrands (l : List StrandId) (f : StrandId → State → State) (s : State) : State :=
  l.foldl (fun s k => f k s) s

/-! ## Strand records -/

/-- The records of strand k. -/
def State.strand (s : State) (k : StrandId) : Strand := s.strands[k]

/-- The context of strand k. -/
def State.ctx (s : State) (k : StrandId) : Context := (s.strand k).ctx

/-- Change the records of strand k. -/
def State.upd (s : State) (k : StrandId) (f : Strand → Strand) : State :=
  { s with strands := s.strands.set k (f (s.strand k)) }

/-- Change the context of strand k. -/
def State.updCtx (s : State) (k : StrandId) (f : Context → Context) : State :=
  s.upd k fun x => { x with ctx := f x.ctx }

/-- A strand runs its profile in RAMPING and HOLDING (R4). -/
def Context.running (c : Context) : Bool := c.state = .ramping ∨ c.state = .holding

/-- A non-shadow strand in RAMPING or HOLDING. -/
def Context.realRun (c : Context) : Bool := c.running ∧ ¬ c.shadow

/-- A shadow strand in RAMPING or HOLDING. -/
def Context.shadowRun (c : Context) : Bool := c.running ∧ c.shadow

/-- A strand is driving when it is a non-shadow strand in RAMPING or HOLDING, or in HANDBACK or TRIPPED (R4). -/
def Context.driving (c : Context) : Bool := c.realRun ∨ c.state = .handback ∨ c.state = .tripped

/-- The output speed: A ÷ 64 while running, the granted speed in HANDBACK and TRIPPED, reported as 0 elsewhere (R1). -/
def Strand.outputSpeed (x : Strand) : Nat :=
  match x.ctx.state with
  | .ramping | .holding => x.ctx.acc / 64
  | .handback | .tripped => x.grant.speed
  | .passive | .tracking => 0

/-- Both inputs of a strand are VALID. -/
def StrandInput.bothValid (r : StrandInput) : Bool := r.lvl.loss = .valid ∧ r.fb.loss = .valid

/-- Some strand is driving. -/
def State.anyDriving (s : State) : Bool := strandIds.any fun k => (s.ctx k).driving

/-- Some strand runs a shadow profile. -/
def State.anyShadow (s : State) : Bool := strandIds.any fun k => (s.ctx k).shadowRun

/-! ## Hold sets (R15 to R17) -/

/-- A reason is in the set. -/
def HoldSet.has (h : HoldSet) : Reason → Bool
  | .level => h.level
  | .sensor => h.sensor
  | .beat => h.beat
  | .command => h.command
  | .change => h.change
  | .dip => h.dip

/-- The set with a reason present or absent. -/
def HoldSet.put (h : HoldSet) (r : Reason) (b : Bool) : HoldSet :=
  match r with
  | .level => { h with level := b }
  | .sensor => { h with sensor := b }
  | .beat => { h with beat := b }
  | .command => { h with command := b }
  | .change => { h with change := b }
  | .dip => { h with dip := b }

/-- No reason is in the set. -/
def HoldSet.isEmpty (h : HoldSet) : Bool := h = {}

/-- A hold reason arrives for addition (R16). -/
def Context.addReason (r : Reason) (c : Context) : Context :=
  if c.running then { c with hold := c.hold.put r true, state := .holding } else c

/-- A hold reason arrives for removal (R17). -/
def Context.removeReason (r : Reason) (c : Context) : Context :=
  if c.state = .holding then
    { c with
      hold := c.hold.put r false
      state := if (c.hold.put r false).isEmpty then .ramping else .holding }
  else c

/-! ## Changes of strand state (R2) -/

/-- The PASSIVE column of R2; release pending is kept. -/
def Context.toPassive (c : Context) : Context := { releasePending := c.releasePending }

/-- The TRACKING column of R2; release pending is kept. -/
def Context.toTracking (c : Context) : Context := { state := .tracking, releasePending := c.releasePending }

/-- The HANDBACK column of R2. -/
def Context.toHandback (_ : Context) : Context := { state := .handback }

/-- The TRIPPED column of R2. -/
def Context.toTripped (why : Cause) (_ : Context) : Context := { state := .tripped, cause := some why }

/-- A strand leaves the driving states, or a shadow run ends, into TRACKING: the TRACKING column of R2, its grant record
and shadow grant record cleared (R21, R58), its handback record gone (R132), its entry of the enrolled set removed (R102),
its silence count 0 and originating false (R155). The observed record and a claim answer due are kept. -/
def Strand.enterTracking (x : Strand) : Strand :=
  { x with
    ctx := x.ctx.toTracking, blend := none, grant := {}, shadowGrant := {}, silence := 0, originating := false, mark := none }

/-! ## Alarms and counters (R168, R170) -/

/-- The code of a trip cause (R27, R168). -/
def Cause.code : Cause → Nat
  | .breakout => 1
  | .level => 2
  | .follow => 3
  | .changeLate => 4
  | .swapTimeout => 5
  | .dipLong => 6

/-- The code of a coordinator state (R92). -/
def ChangeState.code : ChangeState → Nat
  | .clear => 0
  | .lowering => 1
  | .atLow => 2
  | .swap => 3

/-- The code of a strand state (R5). -/
def StrandState.code : StrandState → Nat
  | .passive => 0
  | .tracking => 1
  | .ramping => 2
  | .holding => 3
  | .handback => 4
  | .tripped => 5

/-- The code of an alarm kind (R168). -/
def AlarmKind.code : AlarmKind → Nat
  | .trip => 1
  | .shadowTrip => 2
  | .starved => 3
  | .deficit => 4
  | .loss => 5
  | .lossClear => 6
  | .breakoutSeen => 7
  | .beatFail => 8
  | .switchDone => 9
  | .change => 10
  | .dipBegin => 11
  | .dipEnd => 12
  | .claim => 13
  | .profileEnd => 14
  | .handbackDone => 15
  | .originate => 16
  | .commitDone => 17
  | .lockDone => 18
  | .storeIncomplete => 19

/-- Change the counters. -/
def State.count (s : State) (f : Counters → Counters) : State := { s with counters := f s.counters }

/-- An alarm is raised: its record joins the queue with the beat counter as stamp, or is dropped and counted while 32 are
queued (R168). -/
def State.raise (s : State) (kind : AlarmKind) (strand : Option StrandId) (detail : Nat) : State :=
  if s.alarms.length < 32 then
    { s with alarms := s.alarms ++ [{ stamp := s.beats, kind, strand, detail }] }
  else s.count fun c => { c with alarmOverflow := satInc c.alarmOverflow }

/-! ## Images and tables -/

/-- The limits table of an image: present when both parts are (R162). -/
def Image.limits (i : Image) : Option Limits :=
  match i.limitsSpeed, i.limitsFlow with
  | some a, some b => some ⟨a, b⟩
  | _, _ => none

/-- The limits table of the working image, where it is present. -/
def State.limits (s : State) : Option Limits := s.working.limits

/-- A limits table of zeros: what the operations below read while the limits table is absent. No strand runs, blends or is
tripped then, so no run reaches a use of it (R9, R161; log entry 15). -/
def noLimits : Limits := ⟨⟨0, 0, 0, 0, 0⟩, ⟨⟨0, 0, 0, 0⟩, ⟨0, 0, 0, 0⟩, ⟨0, 0, 0, 0⟩⟩⟩

/-- The limits table as the running rules read it (log entry 15). -/
def State.lim (s : State) : Limits := s.limits.getD noLimits

/-- The plant table. -/
def State.plant (s : State) : Plant := s.working.plant

/-- Profile record p. -/
def Image.profile (i : Image) (p : ProfileId) : Profile := i.profiles[p]

/-- Segment n of profile p. -/
def Image.segment (i : Image) (p : ProfileId) (n : Fin 8) : Segment := (i.segments[p])[n]

/-- The profile a strand runs; the default record for a strand that runs none (log entry 15). -/
def State.profileOf (s : State) (c : Context) : Profile :=
  match c.profile with
  | some p => s.working.profile p
  | none => defaultProfile

/-- The current segment of a strand; `none` at END and outside a run. -/
def State.segmentOf (s : State) (c : Context) : Option Segment :=
  match c.profile, c.segment with
  | some p, some (.seg n) => some (s.working.segment p n)
  | _, _ => none

/-- The image the start-up load builds: the stored contents, or the default image while the stored image is INCOMPLETE or
blank; a locked limits table replaces what they gave (R167). -/
def State.loadedImage (s : State) : Image :=
  let base := if s.incomplete then defaultImage else s.stored.getD defaultImage
  match s.oneTime with
  | some l => { base with limitsSpeed := some l.speed, limitsFlow := some l.flow }
  | none => base

/-- The configuration the Line Interface uses: during the load, that of the stored image or the defaults (R158). -/
def State.config (s : State) : StoredConfig := if s.loading then s.loadedImage.config else s.working.config

/-- Change the stored configuration of the working image. -/
def State.setConfig (s : State) (f : StoredConfig → StoredConfig) : State :=
  { s with working := { s.working with config := f s.working.config } }

/-- The slot map is active when base and mask are both present (R150). -/
def StoredConfig.mapActive (c : StoredConfig) : Bool := c.slotBase.isSome ∧ c.mask.isSome

/-- Strand k is in the strand mask (R150). -/
def StoredConfig.inMask (c : StoredConfig) (k : StrandId) : Bool :=
  match c.mask with
  | some m => m.getLsbD k
  | none => false

/-- A commit or limits lock is in progress. -/
def State.busy (s : State) : Bool := s.op ≠ .idle

/-! ## Frames on DOWN (R147, R148, R157) -/

/-- Send a frame on DOWN, its check word computed over the words as sent (R147). -/
def State.send (s : State) (f : Frame) : State := { s with down := s.down ++ [f.wire] }

/-- The result codes (R157); `guarded` is PROTECTED. -/
inductive Result where
  | ok
  | busy
  | state
  | range
  | closed
  | guarded
  | inUse
  | locked
  | frozen
  | noProfile
  | noLimits
  | input
  | length
  | unknown
deriving DecidableEq, Repr

/-- The value of a result code in a reply's third word (R157). -/
def Result.code : Result → Word
  | .ok => 0
  | .busy => 1
  | .state => 2
  | .range => 3
  | .closed => 4
  | .guarded => 5
  | .inUse => 6
  | .locked => 7
  | .frozen => 8
  | .noProfile => 9
  | .noLimits => 10
  | .input => 11
  | .length => 12
  | .unknown => 13

/-- The reply to a request (R157). -/
def replyFrame (node : Byte) (code : Word) (q : ReqHead) (r : Result) (data : List Word) : Frame :=
  { kind := 4, low := q.origin, origin := node, payload := code :: q.tag :: r.code :: data }

/-- Send the reply to a request. -/
def State.reply (s : State) (code : Word) (q : ReqHead) (r : Result) (data : List Word) : State :=
  s.send (replyFrame s.config.node code q r data)

/-- A number as a word of the line. -/
def word (n : Nat) : Word := BitVec.ofNat 16 n

/-- The originator is the part: its node number or the retired one (R148, R149). -/
def State.isOwn (s : State) (o : Byte) : Bool :=
  o = s.config.node ∨ (s.retired.map fun r => r.node) = some o

end Sys2Proof.Machine
end

