-- ==== Sys2Proof/Machine/Operands.lean ====
section
/-! DEFINITION. How requests are answered and their operands read: the general checks (R157), the strand operand (R6), and field words (R30, R48, R162). -/

namespace Sys2Proof.Machine

/-- What the owning rule of a request answers: a refusal with its result code and no change of state, or the new state and
the data words of an OK reply (R157). -/
abbrev Answer := Except Result (State × List Word)

/-- A request of a known code at its right length, taken at its arrival: a frame of the part's own is removed (R148), the
start-up load refuses BUSY (R157, check 3), and then the owning rule answers. The reply takes the request's place on DOWN. -/
def State.answer (s : State) (code : Word) (q : ReqHead) (body : State → Answer) : State :=
  if s.isOwn q.origin then s
  else if s.loading then s.reply code q .busy []
  else
    match body s with
    | .error r => s.reply code q r []
    | .ok (t, data) => t.reply code q .ok data

/-- A LENGTH reply, counted as BAD_REQUEST (R157, check 1). -/
def State.refuseLength (s : State) (code : Word) (q : ReqHead) : State :=
  (s.count fun c => { c with badRequest := satInc c.badRequest }).reply code q .length []

/-- An UNKNOWN reply, counted as BAD_REQUEST (R157, check 2). -/
def State.refuseUnknown (s : State) (code : Word) (q : ReqHead) : State :=
  (s.count fun c => { c with badRequest := satInc c.badRequest }).reply code q .unknown []

/-- A request whose length is checked against its operands (TABLE_WRITE, R161). -/
def State.answerSized (s : State) (code : Word) (q : ReqHead) (lengthOk : Bool) (body : State → Answer) : State :=
  if s.isOwn q.origin then s
  else if lengthOk then s.answer code q body
  else s.refuseLength code q

/-- A strand number from a word. -/
def strandNumber (w : Word) : Option StrandId := if h : w.toNat < 8 then some ⟨w.toNat, h⟩ else none

/-- A profile number from a word. -/
def profileNumber (w : Word) : Option ProfileId := if h : w.toNat < 32 then some ⟨w.toNat, h⟩ else none

/-- A cooling table number from a word. -/
def tableNumber (w : Word) : Option TableId := if h : w.toNat < 16 then some ⟨w.toNat, h⟩ else none

/-- The strand a request names, or STATE: the map is inactive, the number lies outside 0 to 7, or the strand is not in the
mask (R6). -/
def State.strandOperand (s : State) (w : Word) : Except Result StrandId :=
  if s.config.mapActive then
    match strandNumber w with
    | some k => if s.config.inMask k then .ok k else .error .state
    | none => .error .state
  else .error .state

/-- A strand request: R6, then the owning rule (R6). -/
def State.strandRequest (w : Word) (body : StrandId → State → Answer) (s : State) : Answer :=
  match s.strandOperand w with
  | .ok k => body k s
  | .error r => .error r

/-- A word that is 0 or 1. -/
def flagWord (w : Word) : Option Bool := if w = 0 then some false else if w = 1 then some true else none

/-- A word within a range. -/
def rangeWord (lo hi : Nat) (w : Word) : Option Nat := if lo ≤ w.toNat ∧ w.toNat ≤ hi then some w.toNat else none

/-- A table number, or 255 for absent; `none` outside both (R30, R51, R162). -/
def optionalTable (w : Word) : Option (Option TableId) :=
  if w = 255 then some none else (tableNumber w).map some

/-- A segment number 0 to 7, or 8 for END (R30). -/
def segIndexWord (w : Word) : Option SegIndex :=
  if w = 8 then some .atEnd else (strandNumber w).map fun n => .seg n

/-- The word of a segment index: 0 to 7, 8 for END, 255 when absent (R27, R172). -/
def segIndexCode : Option SegIndex → Nat
  | some (.seg n) => n.val
  | some .atEnd => 8
  | none => 255

end Sys2Proof.Machine
end

