-- ==== Sys2Proof/Machine/Cooling.lean ====
section
/-! DEFINITION. Cooling demand and the header budget (chapter 3, R50 to R59, R67), and the requests SET_ARBITER (R68) and COOL_PIN (R51). -/

namespace Sys2Proof.Machine

/-- The effective table of a strand: its pin, the global table, the current segment's override, the profile's table, the
first that is present (R50). -/
def State.effectiveTable (s : State) (k : StrandId) : TableId :=
  let x := s.strand k
  match x.pin with
  | some t => t
  | none =>
    match s.plant.globalTable with
    | some t => t
    | none =>
      match (s.segmentOf x.ctx).bind (fun g => g.cooling) with
      | some t => t
      | none => (s.profileOf x.ctx).cooling

/-- The flow of a zone at speed v: raw flow rounded half up, table clamp, limits clamp (R52). -/
def zoneFlow (v : Nat) (z : CoolZone) (floor ceiling : Nat) : Nat :=
  let raw := (z.coef * v + 500) / 1000 + z.offset
  let tabled := min (max raw z.tableMin) z.tableMax
  min (max tabled floor) ceiling

/-- The four zone flows of a speed under a table (R52). -/
def State.zoneFlows (s : State) (v : Nat) (t : TableId) : Zones Nat :=
  Zones.map3 (zoneFlow v) (s.working.tables[t]).zones s.lim.flow.floor s.lim.flow.ceiling

/-- D(v, t): the sum of the four zone flows (R53). -/
def State.demand (s : State) (v : Nat) (t : TableId) : Nat := (s.zoneFlows v t).sum

/-- The grant record of a speed under a table (R57). -/
def State.grantFor (s : State) (v : Nat) (t : TableId) : Grant :=
  { speed := v, table := some t, flows := s.zoneFlows v t, demand := (s.zoneFlows v t).sum }

/-- The header capacity H (R54). -/
def State.header (s : State) : Nat :=
  if s.plantIn.inp.loss = .valid then s.plantIn.capacity.getD 0 else s.plant.lossSubstitute

/-- What a strand adds to the foreign draw (R55). -/
def Strand.foreign (x : Strand) : Nat :=
  if x.ctx.state = .tracking ∨ x.ctx.shadowRun then
    match x.observed with
    | some o => o.flows.sum
    | none => 0
  else 0

/-- The foreign draw F (R55). -/
def State.foreignDraw (s : State) : Nat := (strandIds.map fun k => (s.strand k).foreign).sum

/-- The header reserve R: 0 while the limits table is absent (R56). -/
def State.reserve (s : State) : Nat :=
  match s.limits with
  | some l => l.speed.reserve
  | none => 0

/-- The budget B formed at the start of a pass: H − R − F, or 0 if that is negative (R56). -/
def State.formBudget (s : State) : Nat := s.header - s.reserve - s.foreignDraw

/-- What a strand adds to the granted total. -/
def Strand.granted (x : Strand) : Nat := if x.ctx.driving then x.grant.demand else 0

/-- The granted total G (R59). -/
def State.grantedTotal (s : State) : Nat := (strandIds.map fun k => (s.strand k).granted).sum

/-- The arbiter order: by priority and then strand number, or from the rotation pointer upwards modulo 8 (R67). -/
def State.arbiterOrder (s : State) : List StrandId :=
  match s.working.config.mode with
  | .fixed => orderBy (fun k => s.working.config.priorities[k]) strandIds
  | .rotating => strandIds.map fun k => s.pointer + k

/-- SET_ARBITER after the general checks (R68). -/
def setArbiterBody (mode : Word) (priorities : Vector Word 8) (s : State) : Answer :=
  if s.busy then .error .busy
  else
    match flagWord mode with
    | none => .error .range
    | some rotating =>
      if strandIds.any fun k => 3 < (priorities[k]).toNat then .error .range
      else
        .ok (s.setConfig fun c =>
          { c with
            mode := if rotating then .rotating else .fixed
            priorities := #v[(priorities[0]).toNat, (priorities[1]).toNat, (priorities[2]).toNat, (priorities[3]).toNat,
              (priorities[4]).toNat, (priorities[5]).toNat, (priorities[6]).toNat, (priorities[7]).toNat] }, [])

/-- SET_ARBITER (R68). -/
def execSetArbiter (q : ReqHead) (mode : Word) (priorities : Vector Word 8) (s : State) : Outcome :=
  .next (s.answer 8 q (setArbiterBody mode priorities))

/-- COOL_PIN on strand k (R51). -/
def coolPinBody (t : Word) (k : StrandId) (s : State) : Answer :=
  match optionalTable t with
  | none => .error .range
  | some none => .ok (s.upd k fun x => { x with pin := none }, [])
  | some (some n) =>
    if (s.working.tables[n]).valid then .ok (s.upd k fun x => { x with pin := some n }, []) else .error .range

/-- COOL_PIN (R51). -/
def execCoolPin (q : ReqHead) (strand t : Word) (s : State) : Outcome :=
  .next (s.answer 9 q (State.strandRequest strand (coolPinBody t)))

end Sys2Proof.Machine
end

