-- ==== Sys2Proof/Machine/Flags.lean ====
section
/-! DEFINITION. The bits of the actuator control word (R147, R154) and of the status words (R27, R172). -/

namespace Sys2Proof.Machine

/-- CLAIM, bit 0 of a control word (R147). -/
def claimBit (w : Word) : Bool := w.getLsbD 0

/-- The state code in bits 8 to 10 (R147). -/
def stateBits (st : StrandState) : Word := word (st.code * 256)

/-- The control word of a rewritten frame: GRANT, ORIGINATED and RELEASED clear, DRIVING set, state code written; CLAIM and
the bits that carry nothing for the part as received (R154; log entry 19). -/
def controlRewritten (w : Word) (st : StrandState) : Word := (w &&& 0xF8E1#16) ||| 0x0004#16 ||| stateBits st

/-- The control word of a frame the part passes: as received, with RELEASED set when release is pending, and with GRANT set
and DRIVING clear when a claim is answered (R154). -/
def controlPassed (w : Word) (released granted : Bool) : Word :=
  let r := if released then w ||| 0x0010#16 else w
  if granted then (r &&& 0xFFFB#16) ||| 0x0002#16 else r

/-- The control word of an originated frame: DRIVING and ORIGINATED set, the state code written, every other bit clear (R155). -/
def controlOriginated (st : StrandState) : Word := 0x000C#16 ||| stateBits st

/-- A flag as a number. -/
def bit (b : Bool) : Nat := if b then 1 else 0

/-- The hold set, one flag per reason from the lowest bit upward: LEVEL, SENSOR, BEAT, COMMAND, CHANGE, DIP (R27). -/
def HoldSet.code (h : HoldSet) : Nat :=
  bit h.level + 2 * bit h.sensor + 4 * bit h.beat + 8 * bit h.command + 16 * bit h.change + 32 * bit h.dip

/-- The code of a dip state (R105). -/
def DipState.code : DipState → Nat
  | .normal => 0
  | .dipped => 1

/-- The part word of the status slot (R172, word 0). -/
def State.partWord (s : State) : Word :=
  word (bit s.loading + 2 * s.current.code + 8 * bit s.fail + 16 * bit s.switchTo.isSome + 32 * bit s.freeze
    + 64 * s.change.code + 256 * s.dip.code + 512 * s.alarms.length)

/-- The summary of a strand of the mask (R172, words 1 to 8). -/
def Strand.summary (x : Strand) : Word :=
  word (x.ctx.state.code + 8 * x.ctx.hold.code + 512 * bit x.ctx.starved + 1024 * bit x.ctx.shadow
    + 2048 * bit x.ctx.enrolled + 4096 * bit x.originating)

end Sys2Proof.Machine
end

