-- ==== Sys2Proof/Machine/Ramp.lean ====
section
/-! DEFINITION. Segment entry and the change override (R36, R37, R95), the candidate of a ramp step (R38, R39, R44), and trips (R22 to R24, R102). -/

namespace Sys2Proof.Machine

/-! ## Segment entry -/

/-- The change override applies to a strand: it is enrolled and the coordinator is in LOWERING (R95). -/
def State.overridden (s : State) (k : StrandId) : Bool := s.change = .lowering ∧ (s.ctx k).enrolled

/-- The speed c of the change: the change speed or the maximum speed, whichever is less (R95). -/
def State.changeSpeed (s : State) : Nat := min s.plant.changeSpeed s.lim.speed.maxSpeed

/-- The change override is applied to a strand: its low mark, effective target and effective rate (R95). -/
def State.applyOverride (s : State) (k : StrandId) : State :=
  s.upd k fun x =>
    { x with
      mark := some (min x.ctx.acc (s.changeSpeed * 64))
      ctx := { x.ctx with
        target := some (if s.changeSpeed * 64 < x.ctx.acc then s.changeSpeed else x.ctx.acc / 64)
        rate := some (min s.plant.changeRate s.lim.speed.maxRate) } }

/-- The effective target and rate loaded from a segment, with their clamps (R36). -/
def State.loadSegment (s : State) (g : Segment) (c : Context) : Context :=
  { c with target := some (min g.target s.lim.speed.maxSpeed), rate := some (min g.rate s.lim.speed.maxRate) }

/-- A strand enters segment n of the profile it runs (R36). -/
def State.enterSegment (s : State) (k : StrandId) (n : Fin 8) : State :=
  match (s.ctx k).profile with
  | none => s
  | some p =>
    let t := s.updCtx k fun c =>
      s.loadSegment (s.working.segment p n) { c with segment := some (.seg n), dwell := 0, confirmSeen := false }
    if t.overridden k then t.applyOverride k else t

/-- The override ceases to apply to a strand that still runs: target and rate are reloaded from the current segment, or at
END the strand enters the re-entry segment (R37). To be taken with the coordinator already out of LOWERING. -/
def State.reload (s : State) (k : StrandId) : State :=
  match (s.ctx k).segment with
  | some .atEnd => s.enterSegment k (s.profileOf (s.ctx k)).reentry
  | _ =>
    match s.segmentOf (s.ctx k) with
    | some g => s.updCtx k (s.loadSegment g)
    | none => s

/-- The T of a ramp step: the low mark under the override, A itself at END, the effective target × 64 otherwise (R38, R44, R95). -/
def State.stepTarget (s : State) (k : StrandId) : Nat :=
  let x := s.strand k
  if s.overridden k then x.mark.getD x.ctx.acc
  else if x.ctx.segment = some .atEnd then x.ctx.acc
  else
    match x.ctx.target with
    | some v => v * 64
    | none => x.ctx.acc

/-- One step from a towards t by at most r (R38, stage 2). -/
def stepTowards (a t r : Nat) : Nat := if a < t then min (a + r) t else if t < a then max (a - r) t else a

/-- The candidate accumulator of a strand at a beat: one step in RAMPING, A itself in HOLDING (R38, R39). -/
def State.candidate (s : State) (k : StrandId) : Nat :=
  let c := s.ctx k
  if c.state = .ramping then stepTowards c.acc (s.stepTarget k) (c.rate.getD 0) else c.acc

/-! ## Trips -/

/-- The grant record of a TRIPPED strand: speed 0, table absent, the limits trip flows (R22, R57). -/
def State.tripGrant (s : State) : Grant :=
  { speed := 0, table := none, flows := s.lim.flow.trip, demand := s.lim.flow.trip.sum }

/-- A strand's records at trip entry: context, handback record, grant record, enrolled set (R22). -/
def Strand.enterTripped (why : Cause) (g : Grant) (x : Strand) : Strand :=
  { x with ctx := x.ctx.toTripped why, blend := none, grant := g, mark := none }

/-- A trip cause arrives at a strand: trip entry for a non-shadow strand in RAMPING or HOLDING or a strand in HANDBACK
(R22), the would-be trip for a shadow strand (R24), nothing otherwise (R23). The coordinator is told after all trips of
the event (`State.settleChange`; R92). -/
def State.tripOne (why : Cause) (k : StrandId) (s : State) : State :=
  if (s.ctx k).realRun ∨ (s.ctx k).state = .handback then
    ((s.upd k (Strand.enterTripped why s.tripGrant)).count fun c =>
        { c with trips := c.trips.set k (satInc c.trips[k]) }).raise .trip (some k) why.code
  else if (s.ctx k).shadowRun then
    (s.upd k Strand.enterTracking).raise .shadowTrip (some k) why.code
  else s

/-- Some strand is in the enrolled set. -/
def State.anyEnrolled (s : State) : Bool := strandIds.any fun k => (s.strand k).mark.isSome

/-- The strands of the enrolled set, in strand number order. -/
def State.enrolledSet (s : State) : List StrandId := strandIds.filter fun k => (s.strand k).mark.isSome

/-- The coordinator changes state, with its CHANGE alarm (R92). -/
def State.moveChange (s : State) (c : ChangeState) : State := { s with change := c }.raise .change none c.code

/-- An emptied enrolled set returns the coordinator to CLEAR (R102). -/
def State.settleChange (s : State) : State :=
  if s.change ≠ .clear ∧ ¬ s.anyEnrolled then s.moveChange .clear else s

/-- One event trips several strands in the order given; the coordinator follows after the TRIP alarms (R92, R102). -/
def State.tripAll (why : Cause) (ks : List StrandId) (s : State) : State :=
  (forStrands ks (State.tripOne why) s).settleChange

end Sys2Proof.Machine
end

