-- ==== Sys2Proof/Machine/Strands.lean ====
section
/-! DEFINITION. The strand requests TRACK, UNTRACK, START, HOLD, RELEASE, CLEAR_TRIP and READ_CONTEXT (chapter 1). -/

namespace Sys2Proof.Machine

/-- TRACK on strand k (R7). -/
def trackBody (k : StrandId) (s : State) : Answer :=
  if (s.ctx k).state = .passive then
    .ok (s.upd k fun x => { x with ctx := x.ctx.toTracking, observed := none }, [])
  else .error .state

/-- TRACK (R7). -/
def execTrack (q : ReqHead) (strand : Word) (s : State) : Outcome :=
  .next (s.answer 1 q (State.strandRequest strand trackBody))

/-- UNTRACK on strand k (R8); a claim answer due is withdrawn (R141). -/
def untrackBody (k : StrandId) (s : State) : Answer :=
  if (s.ctx k).state = .tracking then
    .ok (s.upd k fun x => { x with ctx := x.ctx.toPassive, observed := none, claimDue := false }, [])
  else .error .state

/-- UNTRACK (R8). -/
def execUntrack (q : ReqHead) (strand : Word) (s : State) : Outcome :=
  .next (s.answer 2 q (State.strandRequest strand untrackBody))

/-! ## START -/

/-- The seed of a START: the observed speed from TRACKING, the VALID speed feedback from PASSIVE; `none` when unavailable
(R10). -/
def Strand.seed (x : Strand) : Option Nat :=
  match x.ctx.state with
  | .tracking => x.observed.map fun o => o.speed
  | .passive => if x.input.fb.loss = .valid then x.input.feedback else none
  | _ => none

/-- A valid profile from its number (R9, check 4). -/
def State.validProfile (s : State) (w : Word) : Option ProfileId :=
  (profileNumber w).bind fun p => if (s.working.profile p).valid then some p else none

/-- The first contents of the hold set and the state that follows (R12). -/
def Context.firstHold (sensor beat : Bool) (c : Context) : Context :=
  { c with
    hold := { sensor, beat }
    state := if sensor ∨ beat then .holding else .ramping }

/-- An accepted START: the context (R11, R12), the first segment (R36), and the neighbours (R13): the grant seeded by force,
the observed record absent from PASSIVE (R153), a claim answer due withdrawn (R141), origination not begun (R155). -/
def State.beginRun (s : State) (k : StrandId) (p : ProfileId) (shadow : Bool) (seed : Nat) (lim : Limits) : State :=
  let x := s.strand k
  let s1 := s.upd k fun x =>
    { x with
      ctx := { state := .ramping, shadow, profile := some p, acc := min seed lim.speed.maxSpeed * 64 }
      observed := if x.ctx.state = .passive then none else x.observed
      claimDue := false, silence := 0, originating := false }
  let s2 := s1.enterSegment k (s.working.profile p).first
  let g := s2.grantFor ((s2.ctx k).acc / 64) (s2.effectiveTable k)
  s2.upd k fun y =>
    { y with
      ctx := y.ctx.firstHold (!x.input.bothValid) s.fail
      grant := if shadow then y.grant else g
      shadowGrant := if shadow then g else y.shadowGrant }

/-- START on strand k, its own checks in their order (R9). -/
def startBody (p shadow : Word) (k : StrandId) (s : State) : Answer :=
  let x := s.strand k
  if x.ctx.state ≠ .passive ∧ x.ctx.state ≠ .tracking then .error .state
  else if s.change ≠ .clear then .error .state
  else
    match s.limits with
    | none => .error .noLimits
    | some lim =>
      match s.validProfile p with
      | none => .error .noProfile
      | some n =>
        if s.plantIn.dip then .error .input
        else if x.input.breakout then .error .input
        else
          match x.seed with
          | none => .error .input
          | some v => .ok (s.beginRun k n (shadow ≠ 0) v lim, [])

/-- START (R9). -/
def execStart (q : ReqHead) (strand p shadow : Word) (s : State) : Outcome :=
  .next (s.answer 3 q (State.strandRequest strand (startBody p shadow)))

/-! ## HOLD, RELEASE, CLEAR_TRIP, READ_CONTEXT -/

/-- HOLD on strand k (R19). -/
def holdBody (k : StrandId) (s : State) : Answer :=
  if (s.ctx k).running then .ok (s.updCtx k (Context.addReason .command), []) else .error .state

/-- HOLD (R19). -/
def execHold (q : ReqHead) (strand : Word) (s : State) : Outcome :=
  .next (s.answer 4 q (State.strandRequest strand holdBody))

/-- RELEASE on strand k (R20). -/
def releaseBody (k : StrandId) (s : State) : Answer :=
  if (s.ctx k).running then .ok (s.updCtx k (Context.removeReason .command), []) else .error .state

/-- RELEASE (R20). -/
def execRelease (q : ReqHead) (strand : Word) (s : State) : Outcome :=
  .next (s.answer 5 q (State.strandRequest strand releaseBody))

/-- CLEAR_TRIP on strand k: TRACKING, the grant cleared, the observed record absent, release pending (R26). -/
def clearTripBody (k : StrandId) (s : State) : Answer :=
  if (s.ctx k).state = .tripped then
    .ok (s.upd k fun x =>
        { x.enterTracking with ctx := { x.enterTracking.ctx with releasePending := true }, observed := none }, [])
  else .error .state

/-- CLEAR_TRIP (R26). -/
def execClearTrip (q : ReqHead) (strand : Word) (s : State) : Outcome :=
  .next (s.answer 6 q (State.strandRequest strand clearTripBody))

/-- The granted demand reported for a strand: from its shadow grant record when it is a shadow strand (R27, R172). -/
def Strand.reportedDemand (x : Strand) : Nat := if x.ctx.shadow then x.shadowGrant.demand else x.grant.demand

/-- The eleven data words of READ_CONTEXT (R27). -/
def Strand.contextWords (x : Strand) : List Word :=
  [word x.ctx.state.code, word (bit x.ctx.shadow), word ((x.ctx.profile.map fun p => p.val).getD 255),
    word (segIndexCode x.ctx.segment), word x.outputSpeed, word (x.ctx.target.getD 0), word x.ctx.hold.code,
    word (bit x.ctx.starved), word ((x.ctx.cause.map Cause.code).getD 0), word (bit x.ctx.enrolled), word x.reportedDemand]

/-- READ_CONTEXT on strand k (R27). -/
def readContextBody (k : StrandId) (s : State) : Answer := .ok (s, (s.strand k).contextWords)

/-- READ_CONTEXT (R27). -/
def execReadContext (q : ReqHead) (strand : Word) (s : State) : Outcome :=
  .next (s.answer 7 q (State.strandRequest strand readContextBody))

end Sys2Proof.Machine
end

