-- ==== Sys2Proof/Machine/AlarmQueue.lean ====
section
/-! DEFINITION. ALARM_POP, COUNTERS_READ and WATCH, and the content of the status slot (chapter 11). -/

namespace Sys2Proof.Machine

/-- The four words of a popped record (R169). -/
def Alarm.words (a : Alarm) : List Word :=
  [a.stamp.extractLsb' 16 16, a.stamp.extractLsb' 0 16,
    word (a.kind.code * 256 + (a.strand.map fun k => k.val).getD 255), word a.detail]

/-- ALARM_POP after the general checks (R169). -/
def alarmPopBody (n : Word) (s : State) : Answer :=
  match rangeWord 1 8 n with
  | none => .error .range
  | some n =>
    let m := min (min n s.alarms.length) 3
    .ok ({ s with alarms := s.alarms.drop m }, word m :: (s.alarms.take m).flatMap Alarm.words)

/-- ALARM_POP (R169). -/
def execAlarmPop (q : ReqHead) (n : Word) (s : State) : Outcome := .next (s.answer 30 q (alarmPopBody n))

/-- The counters of group 0 in the order of the table (R170). -/
def Counters.group0 (c : Counters) : List Word :=
  [word c.badCheck, word c.malformed, word c.badRequest, word c.alarmOverflow, word c.irregularBeats, word c.claimsRefused]

/-- The counters of group 1 in strand order (R170). -/
def Counters.group1 (c : Counters) : List Word := strandIds.map fun k => word c.trips[k]

/-- COUNTERS_READ after the general checks (R170): bit 0 of the flags clears, bit 1 is the group. -/
def countersReadBody (flags : Word) (s : State) : Answer :=
  if 3 < flags.toNat then .error .range
  else
    let clear := flags.getLsbD 0
    if flags.getLsbD 1 then
      .ok (if clear then s.count fun c => { c with trips := Vector.replicate 8 0 } else s, s.counters.group1)
    else .ok (if clear then s.count fun c => { trips := c.trips } else s, s.counters.group0)

/-- COUNTERS_READ (R170). -/
def execCountersRead (q : ReqHead) (flags : Word) (s : State) : Outcome := .next (s.answer 31 q (countersReadBody flags))

/-- WATCH after the general checks (R171). -/
def watchBody (w : Word) (s : State) : Answer :=
  if w = 255 then .ok ({ s with watch := none }, [])
  else
    match strandNumber w with
    | some k => .ok ({ s with watch := some k }, [])
    | none => .error .range

/-- WATCH (R171). -/
def execWatch (q : ReqHead) (strand : Word) (s : State) : Outcome := .next (s.answer 32 q (watchBody strand))

/-! ## The status slot (R172) -/

/-- The watch block, words 9 to 13: a strand outside the mask shows its marker with zeros (R171, R172; log entry 21). -/
def State.watchBlock (s : State) : List Word :=
  match s.watch with
  | none => [0, 0, 0, 0, 0]
  | some k =>
    let marker := word (256 + k.val)
    let x := s.strand k
    if s.config.inMask k then
      [marker, word x.outputSpeed, word (x.ctx.target.getD 0), word (segIndexCode x.ctx.segment), word x.reportedDemand]
    else [marker, 0, 0, 0, 0]

/-- The sixteen words of the status slot (R172); during the start-up load the loading bit alone (R158). -/
def State.statusWords (s : State) : List Word :=
  if s.loading then [1, 0, 0, 0, 0, 0, 0, 0, 0, 0, 0, 0, 0, 0, 0, 0]
  else
    s.partWord
      :: (strandIds.map fun k => if s.config.inMask k then (s.strand k).summary else 0)
      ++ s.watchBlock ++ [word (sat16 s.budget), word (sat16 s.grantedTotal)]

end Sys2Proof.Machine
end

