-- ==== Sys2Proof/Machine/Change.lean ====
section
/-! DEFINITION. The Change Coordinator (chapter 5): CHANGE_BEGIN, CHANGE_CANCEL, SWAP_CONFIRM, the beat in LOWERING and SWAP, and the tundish weight. -/

namespace Sys2Proof.Machine

/-- A strand joins the enrolled set: its enrolled flag, then the override with its low mark (R94, R95). -/
def State.enroll (k : StrandId) (s : State) : State :=
  (s.updCtx k fun c => { c with enrolled := true }).applyOverride k

/-- A strand of the enrolled set leaves it at a release: CHANGE removed, enrolled flag and entry gone (R100, R101). -/
def Strand.released (x : Strand) : Strand :=
  { x with ctx := { x.ctx.removeReason .change with enrolled := false }, mark := none }

/-- Every enrolled strand is released and the coordinator moves to CLEAR (R100). -/
def State.releaseChange (s : State) : State :=
  (forStrands s.enrolledSet (fun k s => s.upd k Strand.released) s).moveChange .clear

/-- The coordinator moves to AT_LOW with every enrolled strand (R96, "All at low"): CHANGE is added, the override ceases. -/
def State.toAtLow (s : State) : State :=
  (forStrands s.enrolledSet (fun k s => (s.updCtx k (Context.addReason .change)).reload k)
    { s with change := .atLow }).raise .change none ChangeState.atLow.code

/-- A strand is at low when its A is at or below its low mark (R96). -/
def Strand.atLow (x : Strand) : Bool := x.ctx.acc ≤ x.mark.getD x.ctx.acc

/-- The enrolled strands not at low, in strand number order (R96). -/
def State.laggards (s : State) : List StrandId := s.enrolledSet.filter fun k => ¬ (s.strand k).atLow

/-- The lowering window expires: each laggard trips with CHANGE_LATE, then the coordinator moves on with those that remain
(R96). -/
def State.expireLowering (s : State) : State :=
  let t := forStrands s.laggards (State.tripOne .changeLate) s
  if t.anyEnrolled then t.toAtLow else t.moveChange .clear

/-- The swap window expires: every enrolled strand trips with SWAP_TIMEOUT and the coordinator moves to CLEAR (R99). -/
def State.expireSwap (s : State) : State :=
  (forStrands s.enrolledSet (State.tripOne .swapTimeout) s).moveChange .clear

/-- The lowering count after one more beat (R96). -/
def State.countLowering (s : State) : State := { s with loweringCount := satInc s.loweringCount }

/-- The swap count after one more beat (R99). -/
def State.countSwap (s : State) : State := { s with swapCount := satInc s.swapCount }

/-- The coordinator takes a beat of the current source (R96, R99). -/
def State.changeBeat (s : State) : State :=
  match s.change with
  | .lowering =>
    if s.laggards = [] then s.toAtLow
    else if s.plant.loweringWindow ≤ s.countLowering.loweringCount then s.countLowering.expireLowering
    else s.countLowering
  | .swap =>
    if s.plant.swapWindow ≤ s.countSwap.swapCount then s.countSwap.expireSwap else s.countSwap
  | .clear | .atLow => s

/-- A weight reading is delivered (R98, R100). -/
def State.takeWeight (s : State) (w : Nat) : State :=
  match s.change with
  | .atLow => if w < s.plant.swapThreshold then { s with swapCount := 0 }.moveChange .swap else s
  | .swap => if s.plant.releaseThreshold ≤ w then s.releaseChange else s
  | .clear | .lowering => s

/-- CHANGE_BEGIN after the general checks (R94). -/
def changeBeginBody (s : State) : Answer :=
  let runners := strandIds.filter fun k => (s.ctx k).realRun
  if s.change ≠ .clear then .error .state
  else if s.limits = none then .error .noLimits
  else if runners = [] then .error .state
  else .ok ((forStrands runners State.enroll { s with loweringCount := 0 }).moveChange .lowering, [])

/-- CHANGE_BEGIN (R94). -/
def execChangeBegin (q : ReqHead) (s : State) : Outcome := .next (s.answer 10 q changeBeginBody)

/-- The release of CHANGE_CANCEL from LOWERING: the override ceases for every enrolled strand, with the coordinator in
CLEAR (R101, R37). -/
def State.cancelLowering (s : State) : State :=
  (forStrands s.enrolledSet (fun k s => (s.reload k).upd k Strand.released) { s with change := .clear }).raise
    .change none ChangeState.clear.code

/-- CHANGE_CANCEL after the general checks (R101). -/
def changeCancelBody (s : State) : Answer :=
  match s.change with
  | .lowering => .ok (s.cancelLowering, [])
  | .atLow => .ok (s.releaseChange, [])
  | .clear | .swap => .error .state

/-- CHANGE_CANCEL (R101). -/
def execChangeCancel (q : ReqHead) (s : State) : Outcome := .next (s.answer 11 q changeCancelBody)

/-- SWAP_CONFIRM after the general checks (R100). -/
def swapConfirmBody (s : State) : Answer :=
  match s.change with
  | .swap => .ok (s.releaseChange, [])
  | .clear | .lowering | .atLow => .error .state

/-- SWAP_CONFIRM (R100). -/
def execSwapConfirm (q : ReqHead) (s : State) : Outcome := .next (s.answer 12 q swapConfirmBody)

/-- LOWERING_WINDOW_EXPIRY: the coordinator takes the beat at which the lowering count reaches the window (R96; log entry 3). -/
def execLoweringWindowExpiry (s : State) : Outcome :=
  .next
    (if s.change = .lowering ∧ s.laggards ≠ [] ∧ s.plant.loweringWindow ≤ s.countLowering.loweringCount then s.changeBeat
    else s)

/-- SWAP_WINDOW_EXPIRY: the coordinator takes the beat at which the swap count reaches the window (R99; log entry 3). -/
def execSwapWindowExpiry (s : State) : Outcome :=
  .next (if s.change = .swap ∧ s.plant.swapWindow ≤ s.countSwap.swapCount then s.changeBeat else s)

end Sys2Proof.Machine
end

