-- ==== Sys2Proof/Machine/Dip.lean ====
section
/-! DEFINITION. The Dip Monitor (chapter 6): dip begin, the beat in DIPPED, dip end with its re-seed. -/

namespace Sys2Proof.Machine

/-- A running strand receives DIP and is marked for re-seeding (R107). -/
def Context.receiveDip (c : Context) : Context := { c.addReason .dip with reseed := true }

/-- Dip begin (R107). -/
def State.dipBegin (s : State) : State :=
  let ks := strandIds.filter fun k => (s.ctx k).running
  (forStrands ks (fun k s => s.updCtx k Context.receiveDip) { s with dip := .dipped, dipCount := 0 }).raise
    .dipBegin none ks.length

/-- The feedback f of a re-seed: the reading while the feedback input is VALID, 0 otherwise (R112). -/
def StrandInput.reseedSpeed (r : StrandInput) : Nat := if r.fb.loss = .valid then r.feedback.getD 0 else 0

/-- The re-seed of a strand: A lowered, the re-entry segment entered, DIP removed (R112). -/
def State.reseedStrand (k : StrandId) (s : State) : State :=
  let f := (s.strand k).input.reseedSpeed
  let t := s.updCtx k fun c => { c with acc := min (min (f * 64) (s.lim.speed.maxSpeed * 64)) c.acc }
  (t.enterSegment k (s.profileOf (s.ctx k)).reentry).updCtx k fun c => { c.removeReason .dip with reseed := false }

/-- Dip end (R111). -/
def State.dipEnd (s : State) : State :=
  let ks := strandIds.filter fun k => (s.ctx k).reseed
  (forStrands ks State.reseedStrand { s with dip := .normal }).raise .dipEnd none ks.length

/-- The dip flag of a fresh VALID plant sample, with the flag in force before it (R106). -/
def State.takeDipFlag (s : State) (before now : Bool) : State :=
  match before, now with
  | false, true => s.dipBegin
  | true, false => s.dipEnd
  | _, _ => s

/-- The dip count after one more beat (R108). -/
def State.countDip (s : State) : State := { s with dipCount := satInc s.dipCount }

/-- The strands holding DIP, in strand number order. -/
def State.dipHolders (s : State) : List StrandId := strandIds.filter fun k => (s.ctx k).hold.dip

/-- The Dip Monitor takes a beat of the current source (R108). -/
def State.dipBeat (s : State) : State :=
  match s.dip with
  | .normal => s
  | .dipped =>
    if s.plant.dipWindow ≤ s.countDip.dipCount then s.countDip.tripAll .dipLong s.dipHolders else s.countDip

/-- DIP_WINDOW_EXPIRY: the Dip Monitor takes the beat at which the dip count reaches the window (R108; log entry 3). -/
def execDipWindowExpiry (s : State) : Outcome :=
  .next (if s.dip = .dipped ∧ s.plant.dipWindow ≤ s.countDip.dipCount then s.dipBeat else s)

end Sys2Proof.Machine
end

