-- ==== Sys2Proof/Machine/Inputs.lean ====
section
/-! DEFINITION. The Input Monitor (chapter 4): samples, loss and clearing, SENSOR, the level gate, the follow check, breakout and confirm. -/

namespace Sys2Proof.Machine

/-! ## Reading a sample (R74) -/

/-- A sensor sample as read from its payload (R74). -/
structure SensorReading where
  level : Int
  feedback : Nat
  breakout : Bool
  confirm : Bool
  seq : Word

/-- A plant sample as read from its payload (R74). -/
structure PlantReading where
  weight : Nat
  capacity : Nat
  dip : Bool
  seq : Word

/-- The level deviation of a word, clamped to −1000 to +1000 (R74). -/
def levelOf (w : Word) : Int := max (-1000) (min 1000 w.toInt)

/-- The four words of a sensor slot (R74). -/
def readSensor (level feedback flags seq : Word) : SensorReading :=
  { level := levelOf level, feedback := min feedback.toNat 8000, breakout := flags.getLsbD 0, confirm := flags.getLsbD 1, seq }

/-- The four words of a plant slot (R74). -/
def readPlant (weight capacity flags seq : Word) : PlantReading :=
  { weight := min weight.toNat 1000, capacity := capacity.toNat, dip := flags.getLsbD 0, seq }

/-! ## Loss states and their alarms -/

/-- The code of a loss cause (R168). -/
def LossCause.code : LossCause → Nat
  | .silent => 0
  | .frozen => 1

/-- The alarm of an input that has gone from one loss state to another: LOSS on entering LOSS, LOSS_CLEAR on leaving it for
VALID, nothing otherwise (R80). `input` is 0 level, 1 speed feedback, 2 plant. -/
def State.raiseLoss (s : State) (strand : Option StrandId) (input : Nat) (before after : LossState) : State :=
  match before, after with
  | .loss _, .loss _ => s
  | _, .loss c => s.raise .loss strand (input + 256 * c.code)
  | .loss _, .valid => s.raise .lossClear strand input
  | _, _ => s

/-- One more beat since the last fresh sample; silence re-zeroes the clear run and takes a VALID input to LOSS(SILENT)
(R76, R77). -/
def Input.age (window : Nat) (i : Input) : Input :=
  if window ≤ satInc i.since then
    { loss := if i.loss = .valid then .loss .silent else i.loss, since := satInc i.since, clearRun := 0 }
  else { i with since := satInc i.since }

/-- A fresh sample at an input in LOSS or NODATA: the clear run counts, and the input clears when the run reaches the clear
count and `varied` holds; a VALID input only has its beats since fresh set to 0 (R75 step 1, R79). -/
def Input.sample (clearCount : Nat) (varied : Bool) (i : Input) : Input :=
  if i.loss = .valid then { i with since := 0 }
  else if clearCount ≤ min 255 (i.clearRun + 1) ∧ varied then { loss := .valid, since := 0, clearRun := 0 }
  else { i with since := 0, clearRun := min 255 (i.clearRun + 1) }

/-- The level input goes into LOSS with cause FROZEN (R78). -/
def StrandInput.freeze (r : StrandInput) : StrandInput :=
  { r with lvl := { r.lvl with loss := .loss .frozen, clearRun := 0 }, varied := false }

/-- The identical-run count after a sample's level (R78). -/
def StrandInput.identicalAfter (r : StrandInput) (level : Int) : Nat :=
  if r.level = some level then satInc r.identical else 0

/-- Run varied after a sample's level at an input in LOSS or NODATA (R79). -/
def StrandInput.variedAfter (r : StrandInput) (level : Int) : Bool :=
  r.varied || (decide (0 < r.lvl.clearRun) && decide (r.level ≠ some level))

/-- A fresh sensor sample at a strand input record: steps 1 to 3 of R75, with the frozen test (R78) and the clearing rule
(R79). -/
def StrandInput.take (pl : Plant) (x : SensorReading) (r : StrandInput) : StrandInput :=
  let same := r.identicalAfter x.level
  let read := { r with
    level := some x.level, feedback := some x.feedback, breakout := x.breakout, seq := some x.seq, identical := same
    fb := r.fb.sample pl.clearCount true }
  if r.lvl.loss = .valid then
    let kept := { read with lvl := { r.lvl with since := 0 } }
    if pl.frozenCount ≤ same then kept.freeze else kept
  else
    let lvl := r.lvl.sample pl.clearCount (r.variedAfter x.level)
    { read with lvl, varied := if lvl.loss = .valid then false else r.variedAfter x.level }

/-- Silence at a beat for a strand input record (R76, R77). -/
def StrandInput.age (window : Nat) (r : StrandInput) : StrandInput :=
  { r with
    lvl := r.lvl.age window, fb := r.fb.age window
    varied := if window ≤ satInc r.lvl.since then false else r.varied }

/-- The change of SENSOR that a change of the input record brings: an addition when either input has left VALID, a removal
when both are now VALID and were not before (R84). A level input that has left VALID zeroes the level excess count (R86). -/
def Context.sensorChange (before after : StrandInput) (c : Context) : Context :=
  let c1 := if before.lvl.loss = .valid ∧ after.lvl.loss ≠ .valid then { c with levelExcess := 0 } else c
  if (before.lvl.loss = .valid ∧ after.lvl.loss ≠ .valid) ∨ (before.fb.loss = .valid ∧ after.fb.loss ≠ .valid) then
    c1.addReason .sensor
  else if after.bothValid ∧ ¬ before.bothValid then c1.removeReason .sensor
  else c1

/-- The input record of a strand changes: the record, its alarms, level before feedback (R77, R79, R80). -/
def State.setInput (s : State) (k : StrandId) (after : StrandInput) : State :=
  let before := (s.strand k).input
  ((s.upd k fun x => { x with input := after }).raiseLoss (some k) 0 before.lvl.loss after.lvl.loss).raiseLoss (some k) 1
    before.fb.loss after.fb.loss

/-- The plant input record changes its loss state, with the alarm (R80). -/
def State.setPlantInput (s : State) (after : PlantInput) : State :=
  { s with plantIn := after }.raiseLoss none 2 s.plantIn.inp.loss after.inp.loss

/-! ## What a fresh sensor sample brings to the strand (R75, step 4) -/

/-- The breakout flag of a fresh sample (R89). `before` is the flag of the record before the sample. -/
def State.takeBreakout (s : State) (k : StrandId) (before flag : Bool) : State :=
  if flag then
    match (s.ctx k).state with
    | .ramping | .holding | .handback => s.tripAll .breakout [k]
    | .tracking => if before then s else s.raise .breakoutSeen (some k) 0
    | .passive | .tripped => s
  else s

/-- The confirm flag of a fresh sample (R41). -/
def State.takeConfirm (s : State) (k : StrandId) (flag : Bool) : State :=
  match s.segmentOf (s.ctx k) with
  | some g => if flag ∧ (s.ctx k).running ∧ g.confirm then s.updCtx k fun c => { c with confirmSeen := true } else s
  | none => s

/-- LEVEL against the bands of the profile (R85). -/
def Context.gateLevel (p : Profile) (deviation : Nat) (c : Context) : Context :=
  if p.holdBand < deviation then c.addReason .level
  else if deviation ≤ p.releaseBand then c.removeReason .level
  else c

/-- The level excess count after a gated sample (R86). -/
def Context.countExcess (p : Profile) (deviation : Nat) (c : Context) : Context :=
  { c with levelExcess := if p.tripBand < deviation then min 255 (c.levelExcess + 1) else 0 }

/-- The level gate at a fresh sample that leaves the level input VALID (R85 to R87). -/
def State.levelGate (s : State) (k : StrandId) (level : Int) : State :=
  if (s.ctx k).running ∧ (s.strand k).input.lvl.loss = .valid then
    let p := s.profileOf (s.ctx k)
    let t := s.updCtx k fun c => (c.gateLevel p level.natAbs).countExcess p level.natAbs
    if p.tripBand < level.natAbs ∧ p.tripCount ≤ (t.ctx k).levelExcess then t.tripAll .level [k] else t
  else s

/-- A fresh sensor sample, taken whole (R75). -/
def State.takeFreshSensor (s : State) (k : StrandId) (x : SensorReading) : State :=
  let before := (s.strand k).input
  let after := before.take s.plant x
  let s1 := (s.setInput k after).takeBreakout k before.breakout x.breakout
  let s2 := s1.updCtx k (Context.sensorChange before after)
  (s2.takeConfirm k x.confirm).levelGate k x.level

/-- A sensor sample: fresh when its sequence count differs from the last or there is none; a stale one changes nothing (R75). -/
def State.takeSensor (s : State) (k : StrandId) (x : SensorReading) : State :=
  if (s.strand k).input.seq = some x.seq then s else s.takeFreshSensor k x

/-! ## Plant samples -/

/-- A fresh plant sample at the plant input record (R75, R79, R81). -/
def PlantInput.take (pl : Plant) (x : PlantReading) (r : PlantInput) : PlantInput :=
  let inp := r.inp.sample pl.clearCount true
  { weight := some x.weight, capacity := some x.capacity, seq := some x.seq, inp
    dip := if inp.loss = .valid then x.dip else r.dip }

/-- A plant sample; one that leaves the plant input VALID is delivered to the Dip Monitor and then to the Change Coordinator
(R75, R82; log entry 18). -/
def State.takePlant (s : State) (x : PlantReading) : State :=
  if s.plantIn.seq = some x.seq then s
  else
    let after := s.plantIn.take s.plant x
    let t := s.setPlantInput after
    if after.inp.loss = .valid then (t.takeDipFlag s.plantIn.dip x.dip).takeWeight x.weight else t

/-! ## The beat of the Input Monitor and the follow check -/

/-- A strand input record ages by one beat (R76, R77, R84). -/
def State.ageStrand (k : StrandId) (s : State) : State :=
  let before := (s.strand k).input
  let after := before.age s.plant.lossWindow
  (s.setInput k after).updCtx k (Context.sensorChange before after)

/-- The Input Monitor takes a beat of the current source: every strand input in strand number order, then the plant input
(R76, R77). -/
def State.inputBeat (s : State) : State :=
  let t := forStrands strandIds State.ageStrand s
  t.setPlantInput { t.plantIn with inp := t.plantIn.inp.age t.plant.lossWindow }

/-- The follow check counts at this beat: a non-shadow running strand, its feedback VALID, DIP not held, and the gap between
feedback reading and output speed above the follow band (R88). `acc` is A as it stood when the beat arrived. -/
def State.followGap (s : State) (acc : Nat) (k : StrandId) : Bool :=
  let x := s.strand k
  x.ctx.realRun ∧ x.input.fb.loss = .valid ∧ ¬ x.ctx.hold.dip
    ∧ s.lim.speed.followBand < ((x.input.feedback.getD 0 : Int) - (acc / 64 : Nat)).natAbs

/-- The follow count of a strand at a beat (R88). -/
def State.countFollow (acc : Nat) (k : StrandId) (s : State) : State :=
  if (s.ctx k).realRun then
    s.updCtx k fun c => { c with followCount := if s.followGap acc k then satInc c.followCount else 0 }
  else s

/-- The follow count reaches the limits follow count at this beat (R88). -/
def State.followReached (s : State) (acc : Nat) (k : StrandId) : Bool :=
  s.followGap acc k ∧ s.lim.speed.followCount ≤ satInc (s.ctx k).followCount

/-- The follow checks of the beat with free-value index i; `acc` gives each A as it stood when the beat arrived (R88; the
order of the trips: log entry 5). -/
def State.followBeat (i : Nat) (acc : StrandId → Nat) (s : State) : State :=
  let reached := (orderBy (Config.strandRank i .followTrips) strandIds).filter fun k => s.followReached (acc k) k
  (forStrands strandIds (fun k s => s.countFollow (acc k) k) s).tripAll .follow reached

/-! ## The rows of the Input Monitor -/

/-- INPUT_SILENCE: an input takes the beat at which its beats since fresh reach the loss window (R77; log entry 3). DESIGN CHOICE
(log entry 32): the row names one input, and no other input's beats since fresh count that beat. -/
def execInputSilence (i : InputId) (s : State) : Outcome :=
  .next
    (match i with
    | .level k =>
      let r := (s.strand k).input
      if s.plant.lossWindow ≤ satInc r.lvl.since then
        let after := { r with lvl := r.lvl.age s.plant.lossWindow, varied := false }
        (s.setInput k after).updCtx k (Context.sensorChange r after)
      else s
    | .feedback k =>
      let r := (s.strand k).input
      if s.plant.lossWindow ≤ satInc r.fb.since then
        let after := { r with fb := r.fb.age s.plant.lossWindow }
        (s.setInput k after).updCtx k (Context.sensorChange r after)
      else s
    | .plant =>
      if s.plant.lossWindow ≤ satInc s.plantIn.inp.since then
        s.setPlantInput { s.plantIn with inp := s.plantIn.inp.age s.plant.lossWindow }
      else s)

/-- LEVEL_FROZEN: the identical-run count of a VALID level input reaches the frozen count (R78; log entry 3). DESIGN CHOICE (log
entry 32): the row carries no sample, so it leaves the beats since fresh, the last sequence count, the readings and the feedback
input as they are. -/
def execLevelFrozen (k : StrandId) (s : State) : Outcome :=
  .next
    (let r := (s.strand k).input
    if r.lvl.loss = .valid ∧ s.plant.frozenCount ≤ satInc r.identical then
      let after := { r with identical := satInc r.identical }.freeze
      (s.setInput k after).updCtx k (Context.sensorChange r after)
    else s)

/-- A clear run that one more fresh sample completes (R79). -/
def Input.clearDue (clearCount : Nat) (i : Input) : Bool := i.loss ≠ .valid ∧ clearCount ≤ min 255 (i.clearRun + 1)

/-- INPUT_CLEAR: the clear run of an input completes (R79; log entry 3). DESIGN CHOICE (log entries 31 and 32): the
row carries no sample, so for a level input whose run varied is still false it changes nothing; where it clears, it sets the beats
since fresh of the named input alone to 0, and leaves the strand's other input, the identical-run count, the last sequence count and
the readings as they are. -/
def execInputClear (i : InputId) (s : State) : Outcome :=
  .next
    (match i with
    | .level k =>
      let r := (s.strand k).input
      if r.lvl.clearDue s.plant.clearCount ∧ r.varied then
        let after := { r with lvl := r.lvl.sample s.plant.clearCount true, varied := false }
        (s.setInput k after).updCtx k (Context.sensorChange r after)
      else s
    | .feedback k =>
      let r := (s.strand k).input
      if r.fb.clearDue s.plant.clearCount then
        let after := { r with fb := r.fb.sample s.plant.clearCount true }
        (s.setInput k after).updCtx k (Context.sensorChange r after)
      else s
    | .plant =>
      if s.plantIn.inp.clearDue s.plant.clearCount then
        s.setPlantInput { s.plantIn with inp := s.plantIn.inp.sample s.plant.clearCount true }
      else s)

/-- LEVEL_TRIP: the level excess count of strand k reaches the level trip count (R86; log entry 3). DESIGN CHOICE (log entry 32):
the row carries no sample, so it leaves the input record as it is. -/
def execLevelTrip (k : StrandId) (s : State) : Outcome :=
  .next
    (if (s.ctx k).running ∧ (s.strand k).input.lvl.loss = .valid
        ∧ (s.profileOf (s.ctx k)).tripCount ≤ min 255 ((s.ctx k).levelExcess + 1) then
      s.tripAll .level [k]
    else s)

/-- FOLLOW_TRIP: strand k takes the follow check at which its follow count reaches the limits follow count (R88; log entry 3). -/
def execFollowTrip (k : StrandId) (s : State) : Outcome :=
  .next
    (if s.followReached (s.ctx k).acc k then (s.countFollow (s.ctx k).acc k).tripAll .follow [k] else s)

end Sys2Proof.Machine
end

