-- ==== Sys2Proof/Machine/Handback.lean ====
section
/-! DEFINITION. Handback (sections 8.1, 8.2) and claims (8.3): entry, the blend step, completion, the answers to a claim, and the requests and rows of them. -/

namespace Sys2Proof.Machine

/-- A non-shadow strand enters HANDBACK (R133). -/
def Strand.enterHandback (n : Nat) (x : Strand) : Strand :=
  { x with
    blend := some { startSpeed := x.ctx.acc / 64, startFlows := x.grant.flows, k := 0, n := n, claim := false }
    ctx := x.ctx.toHandback }

/-- A shadow strand ends its run by handback: it enters TRACKING with HANDBACK_DONE, detail 1 (R146). -/
def State.shadowReturn (s : State) (k : StrandId) : State :=
  (s.upd k Strand.enterTracking).raise .handbackDone (some k) 1

/-- A running strand leaves its run by the HANDBACK request or the end action HANDBACK (R45, R134). -/
def State.leaveByHandback (s : State) (k : StrandId) : State :=
  if (s.ctx k).shadow then s.shadowReturn k else s.upd k (Strand.enterHandback s.plant.blendBeats)

/-- HANDBACK on strand k (R134). -/
def handbackBody (k : StrandId) (s : State) : Answer :=
  if ¬ (s.ctx k).running then .error .state
  else if (s.ctx k).enrolled then .error .state
  else .ok (s.leaveByHandback k, [])

/-- HANDBACK (R134). -/
def execHandback (q : ReqHead) (strand : Word) (s : State) : Outcome :=
  .next (s.answer 18 q (State.strandRequest strand handbackBody))

/-! ## The blend -/

/-- A value after k of n steps from start to target, the division truncating toward zero (R135). -/
def blendValue (start target k n : Nat) : Nat :=
  ((start : Int) + (((target : Int) - (start : Int)) * (k : Int)).tdiv (n : Int)).toNat

/-- The speed target of a blend (R136). -/
def State.blendSpeedTarget (s : State) (x : Strand) (b : Handback) : Nat :=
  match x.observed with
  | some o => min o.speed s.lim.speed.maxSpeed
  | none => b.startSpeed

/-- The flow targets of a blend (R136). -/
def State.blendFlowTargets (s : State) (x : Strand) (b : Handback) : Zones Nat :=
  match x.observed with
  | some o => Zones.map3 (fun v lo hi => min (max v lo) hi) o.flows s.lim.flow.floor s.lim.flow.ceiling
  | none => b.startFlows

/-- The grant record of a blend step, k being the step count after its increase (R135). -/
def State.blendGrant (s : State) (x : Strand) (b : Handback) (k : Nat) : Grant :=
  let flows := Zones.map3 (fun start target (_ : Nat) => blendValue start target k b.n) b.startFlows
    (s.blendFlowTargets x b) b.startFlows
  { speed := blendValue b.startSpeed (s.blendSpeedTarget x b) k b.n, table := none, flows, demand := flows.sum }

/-- The blend completes: TRACKING, the grant cleared, HANDBACK_DONE, and a latched claim made due with its CLAIM alarm
(R137, R141). -/
def State.completeBlend (s : State) (k : StrandId) (claim : Bool) : State :=
  let t := (s.upd k fun x => { x.enterTracking with claimDue := x.claimDue || claim }).raise .handbackDone (some k) 0
  if claim then t.raise .claim (some k) 1 else t

/-- One blend step of a strand in HANDBACK; the step that brings k to N completes the blend (R135, R137). -/
def State.blendStep (k : StrandId) (s : State) : State :=
  match (s.ctx k).state, (s.strand k).blend with
  | .handback, some b =>
    let t := s.upd k fun x => { x with blend := some { b with k := b.k + 1 }, grant := s.blendGrant x b (b.k + 1) }
    if b.k + 1 = b.n then t.completeBlend k b.claim else t
  | _, _ => s

/-- BLEND_COMPLETE: strand k takes the blend step that brings k to N (R137; log entry 3). -/
def execBlendComplete (k : StrandId) (s : State) : Outcome :=
  .next
    (match (s.strand k).blend with
    | some b => if b.k + 1 = b.n then s.blendStep k else s
    | none => s)

/-! ## Claims -/

/-- What a claim makes of a strand and the frame that carries it: granted at once, or the frame goes by the state (R139). -/
structure Claimed where
  state : State
  granted : Bool

/-- A claim is granted at once, in R140's order: TRACKING with the enrolled set left and the grant cleared, the coordinator,
then the CLAIM alarm (R140; log entry 27). -/
def State.grantClaim (s : State) (k : StrandId) : State :=
  (s.upd k Strand.enterTracking).settleChange.raise .claim (some k) 0

/-- A master frame with CLAIM set is taken as a claim, after its values are recorded (R139 to R142). -/
def State.takeClaim (s : State) (k : StrandId) : Claimed :=
  if (s.ctx k).realRun then ⟨s.grantClaim k, true⟩
  else
    match (s.ctx k).state with
    | .handback => ⟨s.upd k fun x => { x with blend := x.blend.map fun b => { b with claim := true } }, false⟩
    | .tripped => ⟨s.count fun c => { c with claimsRefused := satInc c.claimsRefused }, false⟩
    | _ => ⟨s, false⟩

end Sys2Proof.Machine
end

