-- ==== Sys2Proof/Machine/Pass.lean ====
section
/-! DEFINITION. The admission pass (R60 to R67) with the ramp steps and segment completions taken in it (R38 to R45), starvation and deficit (R70, R71). -/

namespace Sys2Proof.Machine

/-! ## Requests of a pass -/

/-- The request of a running strand at a pass: its candidate A, and the grant it asks for, the candidate speed under the
effective table (R38, R39, R60). -/
structure Ask where
  strand : StrandId
  cand : Nat
  grant : Grant

/-- How a request is answered (R65). -/
inductive Verdict where
  | asAsked
  | fallback
  | refused
deriving DecidableEq, Repr

/-- The dwell stage of a ramp step: one more RAMPING beat, but for a strand at END (R38, stage 1; R44). -/
def Context.countDwell (c : Context) : Context :=
  if c.state = .ramping ∧ c.segment ≠ some .atEnd then { c with dwell := satInc c.dwell } else c

/-- The request of strand k (R38, R39, R60). -/
def State.askOf (s : State) (k : StrandId) : Ask :=
  { strand := k, cand := s.candidate k, grant := s.grantFor (s.candidate k / 64) (s.effectiveTable k) }

/-- A request is increasing when its demand is above the strand's granted demand (R60). -/
def State.increasing (s : State) (a : Ask) : Bool := (s.strand a.strand).grant.demand < a.grant.demand

/-- Write the grant record of a strand. -/
def State.setGrant (s : State) (k : StrandId) (g : Grant) : State := s.upd k fun x => { x with grant := g }

/-- Write the shadow grant record of a strand. -/
def State.setShadowGrant (s : State) (k : StrandId) (g : Grant) : State := s.upd k fun x => { x with shadowGrant := g }

/-! ## Phases -/

/-- Where a pass stands after some requests: the state, the answers given so far, the increasing requests granted (newest
first) and, in the shadow phase, the shadow sum S. -/
structure PassPoint where
  state : State
  answers : List (Ask × Verdict)
  won : List StrandId
  sum : Nat

/-- Record an answer. -/
def PassPoint.note (p : PassPoint) (a : Ask) (v : Verdict) : PassPoint := { p with answers := p.answers ++ [(a, v)] }

/-- Phase 2: a non-increasing request is granted as asked (R61). -/
def PassPoint.grantEasy (p : PassPoint) (a : Ask) : PassPoint :=
  { p with state := p.state.setGrant a.strand a.grant }.note a .asAsked

/-- The granted total with a request granted: G − g + d′ (R62). -/
def State.totalWith (s : State) (a : Ask) : Nat :=
  s.grantedTotal - (s.strand a.strand).grant.demand + a.grant.demand

/-- Phase 3: an increasing request is granted when G − g + d′ does not exceed B; otherwise it is left to phase 4 (R62). -/
def PassPoint.visit (budget : Nat) (p : PassPoint) (a : Ask) : PassPoint :=
  if p.state.totalWith a ≤ budget then
    { p with state := p.state.setGrant a.strand a.grant, won := a.strand :: p.won }.note a .asAsked
  else p

/-- Phase 4: a request phase 3 refused falls back to its speed under the granted table when that speed is below the granted
speed, and is refused otherwise (R63). -/
def PassPoint.fallBack (p : PassPoint) (a : Ask) : PassPoint :=
  let g := (p.state.strand a.strand).grant
  match g.table with
  | some t =>
    if a.grant.speed < g.speed then
      { p with state := p.state.setGrant a.strand (p.state.grantFor a.grant.speed t) }.note a .fallback
    else p.note a .refused
  | none => p.note a .refused

/-- The shadow phase: a shadow request is granted within B − G − S, falls back likewise, or is refused (R64). -/
def PassPoint.visitShadow (budget : Nat) (p : PassPoint) (a : Ask) : PassPoint :=
  let g := (p.state.strand a.strand).shadowGrant
  let total := p.state.grantedTotal + p.sum
  if total + a.grant.demand ≤ budget then
    { p with state := p.state.setShadowGrant a.strand a.grant, sum := p.sum + a.grant.demand }.note a .asAsked
  else
    match g.table with
    | some t =>
      let f := p.state.grantFor a.grant.speed t
      if a.grant.speed < g.speed ∧ total + f.demand ≤ budget then
        { p with state := p.state.setShadowGrant a.strand f, sum := p.sum + f.demand }.note a .fallback
      else p.note a .refused
    | none => p.note a .refused

/-- Phases 2 to 4 and the shadow phase, on the requests formed from the state the pass reaches them in (R61 to R64). -/
def State.phases (s : State) : PassPoint :=
  let order := s.arbiterOrder
  let real := order.filter fun k => (s.ctx k).realRun
  let asks := real.map s.askOf
  let hard := asks.filter s.increasing
  let p1 := (asks.filter fun a => ¬ s.increasing a).foldl PassPoint.grantEasy ⟨s, [], [], 0⟩
  let p2 := hard.foldl (PassPoint.visit s.budget) p1
  let p3 := (hard.filter fun a => ¬ p2.won.contains a.strand).foldl PassPoint.fallBack p2
  ((order.filter fun k => (s.ctx k).shadowRun).map s.askOf).foldl (PassPoint.visitShadow s.budget) p3

/-! ## Results, completion and close -/

/-- The result of a request at its strand: A and the starved flag and count (R38 stage 4, R65, R70). -/
def Context.takeResult (cand : Nat) (v : Verdict) (c : Context) : Context :=
  match v with
  | .asAsked => { c with acc := cand, starved := false, starvedCount := 0 }
  | .fallback => { c with acc := cand, starved := true, starvedCount := satInc c.starvedCount }
  | .refused => { c with starved := true, starvedCount := satInc c.starvedCount }

/-- The results of a pass at their strands. -/
def State.takeResults (answers : List (Ask × Verdict)) (s : State) : State :=
  answers.foldl (fun s av => s.updCtx av.1.strand (Context.takeResult av.1.cand av.2)) s

/-- The strands whose starved count reaches the starvation limit by the results of this pass, with whether each is a shadow
strand, in strand number order (R70). DESIGN CHOICE (log entry 29): a limit that a PLANT write has raised above the count of a
running episode is met a second time, with a second alarm. -/
def State.newlyStarved (answers : List (Ask × Verdict)) (s : State) : List (StrandId × Bool) :=
  (strandIds.filter fun k =>
      (answers.any fun av => av.1.strand = k ∧ av.2 ≠ .asAsked)
        ∧ (s.ctx k).starvedCount + 1 = s.plant.starvationLimit).map
    fun k => (k, (s.ctx k).shadow)

/-- The STARVED alarms of a pass (R70). -/
def State.raiseStarved (l : List (StrandId × Bool)) (s : State) : State :=
  l.foldl (fun s ks => s.raise .starved (some ks.1) (if ks.2 then 1 else 0)) s

/-- The segment of a strand completes: A equals T, the dwell has run, confirm is seen where required (R42). -/
def State.completes (s : State) (k : StrandId) (g : Segment) : Bool :=
  let c := s.ctx k
  c.acc = s.stepTarget k ∧ g.minDwell ≤ c.dwell ∧ (¬ g.confirm ∨ c.confirmSeen)

/-- The completion test, the last stage of a ramp step, with what completion does (R38 stage 5, R42 to R45). -/
def State.completionTest (k : StrandId) (s : State) : State :=
  let c := s.ctx k
  match s.segmentOf c with
  | none => s
  | some g =>
    if c.state = .ramping ∧ ¬ c.enrolled ∧ s.completes k g then
      match g.next with
      | .seg n => s.enterSegment k n
      | .atEnd =>
        match (s.profileOf c).endAction with
        | .stay =>
          (s.updCtx k fun c => { c with segment := some .atEnd, dwell := 0, confirmSeen := false }).raise .profileEnd (some k)
            ((c.profile.map fun p => p.val).getD 0)
        | .handback => s.leaveByHandback k
    else s

/-- The pointer update: in ROTATING, one past the last increasing request granted (R67). -/
def State.movePointer (won : List StrandId) (s : State) : State :=
  match s.working.config.mode, won with
  | .rotating, k :: _ => { s with pointer := k + 1 }
  | _, _ => s

/-- The deficit count at the close of a pass, with its alarm (R71). DESIGN CHOICE (log entry 30): a limit that a PLANT write has
raised above the count of a running episode is met a second time, with a second alarm. -/
def State.countDeficit (s : State) : State :=
  if s.budget < s.grantedTotal then
    let t := { s with deficit := satInc s.deficit }
    if s.deficit + 1 = s.plant.deficitLimit then t.raise .deficit none (sat16 (s.grantedTotal - s.budget)) else t
  else { s with deficit := 0 }

/-- The admission pass of the beat with free-value index i (R60): budget, blend steps, dwell, phases, results, completion
tests, and the close. -/
def State.admissionPass (i : Nat) (s : State) : State :=
  let s1 := { s with budget := s.formBudget }
  let s2 := forStrands (orderBy (Config.strandRank i .blendSteps) strandIds) State.blendStep s1
  let s3 := forStrands strandIds (fun k s => s.updCtx k Context.countDwell) s2
  let p := s3.phases
  let starving := State.newlyStarved p.answers p.state
  let s4 := p.state.takeResults p.answers
  let s5 := forStrands (orderBy (Config.strandRank i .completions) strandIds) State.completionTest s4
  ((s5.movePointer p.won).raiseStarved starving).countDeficit

/-! ## The rows of a pass -/

/-- STARVED: the starved count of strand k reaches the starvation limit (R70; log entries 3 and 29). -/
def execStarved (k : StrandId) (s : State) : Outcome :=
  .next
    (if (s.ctx k).running ∧ (s.ctx k).starvedCount + 1 = s.plant.starvationLimit then
      (s.updCtx k fun c => { c with starved := true, starvedCount := satInc c.starvedCount }).raise .starved (some k)
        (if (s.ctx k).shadow then 1 else 0)
    else s)

/-- DEFICIT: the deficit count reaches the deficit limit with G above the B of the most recent pass (R71; log entries 3 and
30). -/
def execDeficit (s : State) : Outcome :=
  .next (if s.budget < s.grantedTotal ∧ s.deficit + 1 = s.plant.deficitLimit then s.countDeficit else s)

end Sys2Proof.Machine
end

