-- ==== Sys2Proof/Machine/Beats.lean ====
section
/-! DEFINITION. The Beat Unit (chapter 7): sources, lock monitors, delivery of a beat to the blocks, failover, switching, the beat requests; and origination at a beat (R155, R156). -/

namespace Sys2Proof.Machine

/-! ## The Line Interface at a beat -/

/-- The actuator slot of strand k under a slot base (R150). -/
def actuatorSlot (base : Nat) (k : StrandId) : Byte := BitVec.ofNat 8 (base + 3 + 2 * k.val)

/-- Words 1 to 5 of an actuator frame from a grant record (R154, R155). -/
def Grant.words (g : Grant) : List Word := word g.speed :: g.flows.toList.map word

/-- An actuator frame the part originates (R155). -/
def originatedFrame (node slot : Byte) (x : Strand) : Frame :=
  { kind := 2, low := slot, origin := node, payload := x.grant.words ++ [controlOriginated x.ctx.state] }

/-- The BEAT frame the part originates (R156). -/
def originatedBeat (node : Byte) : Frame := { kind := 1, low := 0, origin := node, payload := [] }

/-- A driving strand's silence count and originating flag after one more beat (R155). -/
def Strand.countSilence (x : Strand) : Strand :=
  if x.silence < 2 then { x with silence := x.silence + 1, originating := x.originating || x.silence + 1 = 2 } else x

/-- Origination for strand k at a beat: the count, the ORIGINATE alarm at the beat that brings it to 2, and the frame while
originating (R155). -/
def State.originStep (k : StrandId) (s : State) : State :=
  if (s.ctx k).driving then
    let t := s.upd k Strand.countSilence
    let t := if (s.strand k).silence + 1 = 2 then t.raise .originate (some k) 0 else t
    match (t.strand k).originating, t.config.slotBase with
    | true, some b => t.send (originatedFrame t.config.node (actuatorSlot b k) (t.strand k))
    | _, _ => t
  else s

/-- One more beat since the node number changed; the retired number is cleared at the fourth (R149). -/
def State.countRetired (s : State) : State :=
  { s with retired := s.retired.bind fun r => if 4 ≤ r.beats + 1 then none else some { r with beats := r.beats + 1 } }

/-- The BEAT frame sent while LINE is not current and silent (R156). -/
def State.sendBeat (s : State) : State :=
  if s.current ≠ .line ∧ s.lineMon.silent then s.send (originatedBeat s.config.node) else s

/-- The Line Interface takes a beat of the current source: the BEAT frame first, then the actuator frames in strand number
order (R155, R156). -/
def State.lineBeat (s : State) : State := forStrands strandIds State.originStep s.countRetired.sendBeat

/-! ## Delivery of a beat (R119) -/

/-- The blocks that take a delivered beat. -/
def beatBlocks : List Block :=
  [.sequencer, .arbiter, .inputMonitor, .changeCoordinator, .dipMonitor, .lineInterface]

/-- A block takes the beat with free-value index i; `acc` gives each A as it stood when the beat arrived (R88, R119). -/
def State.blockBeat (i : Nat) (acc : StrandId → Nat) (s : State) : Block → State
  | .sequencer => s.followBeat i acc
  | .arbiter => s.admissionPass i
  | .inputMonitor => s.inputBeat
  | .changeCoordinator => s.changeBeat
  | .dipMonitor => s.dipBeat
  | .lineInterface => s.lineBeat

/-- The blocks take a beat in the order given. -/
def State.blocksBeat (i : Nat) (order : List Block) (s : State) : State :=
  order.foldl (State.blockBeat i fun k => (s.ctx k).acc) s

/-- A beat of the current source is delivered: the counter increases, and each block takes the beat, in an order the spec
leaves open (R119; log entries 4 and 8). -/
def State.deliverBeat (s : State) : State :=
  { s with beats := s.beats + 1, fresh := s.fresh + 1 }.blocksBeat s.fresh (orderBy (Config.blockRank s.fresh) beatBlocks)

/-! ## Lock monitors (R117, R118) -/

/-- The spacing of a beat at time t from the monitor's last beat is in tolerance: P − P/8 to P + P/8 (R117). P is in ms,
times in microseconds. -/
def Monitor.inTolerance (period t : Nat) (m : Monitor) : Bool := 875 * period ≤ t - m.ref ∧ t - m.ref ≤ 1125 * period

/-- A beat of the source at time t reaches its monitor (R117). -/
def Monitor.beat (period t : Nat) (m : Monitor) : Monitor :=
  if m.hasLast ∧ m.inTolerance period t then
    if m.locked then { locked := true, run := 8, ref := t, hasLast := true, silent := false }
    else { locked := 8 ≤ m.run + 1, run := min 8 (m.run + 1), ref := t, hasLast := true, silent := false }
  else { locked := false, run := 0, ref := t, hasLast := true, silent := false }

/-- A monitor restarted at time t (R118). -/
def Monitor.restart (t : Nat) : Monitor := { ref := t }

/-- A monitor at the event of silence (R118). -/
def Monitor.silence (m : Monitor) : Monitor := { m with locked := false, run := 0, hasLast := false, silent := true }

/-- The lock monitor of a source; LOCAL has none and is locked at all times (R117). -/
def State.monitor (s : State) : Source → Monitor
  | .line => s.lineMon
  | .pulse => s.pulseMon
  | .localGen => { locked := true, run := 8 }

/-- Replace the lock monitor of an external source. -/
def State.setMonitor (s : State) (src : Source) (m : Monitor) : State :=
  match src with
  | .line => { s with lineMon := m }
  | .pulse => { s with pulseMon := m }
  | .localGen => s

/-- The beat period P in ms. -/
def State.period (s : State) : Nat := s.working.config.period

/-- Time has reached t. -/
def State.atTime (s : State) (t : Nat) : State := { s with now := max s.now t }

/-! ## Beats, switching and failover -/

/-- A hold reason arrives for removal at every strand. -/
def State.removeEverywhere (r : Reason) (s : State) : State :=
  forStrands strandIds (fun k s => s.updCtx k (Context.removeReason r)) s

/-- A hold reason arrives for addition at every strand. -/
def State.addEverywhere (r : Reason) (s : State) : State :=
  forStrands strandIds (fun k s => s.updCtx k (Context.addReason r)) s

/-- The fail flag is cleared and BEAT is removed (R122). -/
def State.clearFail (s : State) : State := { s with fail := false }.removeEverywhere .beat

/-- A pending switch to a source completes at a beat of it, in the order R125 lists (log entry 9). -/
def State.completeSwitch (src : Source) (s : State) : State :=
  let s1 := { s with current := src }.deliverBeat
  let s2 := { s1 with switchTo := none }
  let s3 := if src ≠ .localGen ∧ s2.fail then s2.clearFail else s2
  s3.raise .switchDone none src.code

/-- A beat of LINE or PULSE at time t: its monitor takes it; as a beat of the current source it is delivered, counted as
irregular when out of tolerance; as a beat of the pending target it completes the switch when the monitor was and stays
LOCKED (R116, R117, R119, R120, R125). No source delivers a beat during the start-up load (R116). -/
def State.sourceBeat (src : Source) (t : Nat) (s : State) : State :=
  if s.loading then s
  else
    let m := s.monitor src
    let m' := m.beat s.period t
    let s1 := (s.setMonitor src m').atTime t
    if s.current = src then
      (if m.hasLast ∧ ¬ m.inTolerance s.period t then
        s1.count fun c => { c with irregularBeats := satInc c.irregularBeats }
      else s1).deliverBeat
    else if s.switchTo = some src ∧ m.locked ∧ m'.locked then s1.completeSwitch src
    else s1

/-- An expiry of the local generator, at the time it is due (R116, R119, R125). -/
def State.localBeat (s : State) : State :=
  match s.localNext with
  | none => s
  | some n =>
    let s1 := { s with localNext := some (n + 1000 * s.period) }.atTime n
    if s.current = .localGen then s1.deliverBeat
    else if s.switchTo = some .localGen then s1.completeSwitch .localGen
    else s1

/-- The current source is lost: the part moves to LOCAL (R121). -/
def State.failover (s : State) (src : Source) : State :=
  ({ s with current := .localGen, fail := true, switchTo := none }.addEverywhere .beat).raise .beatFail none src.code

/-- 3P have passed without a beat of an external source (R118, R121). -/
def State.sourceSilence (src : Source) (s : State) : State :=
  let m := s.monitor src
  if s.loading ∨ src = .localGen ∨ m.silent then s
  else
    let s1 := (s.setMonitor src m.silence).atTime (m.ref + 3000 * s.period)
    if s.current = src then s1.failover src else s1

/-- PULSE_EDGE: a rising edge on the PULSE input at time t (R116). -/
def execPulseEdge (t : Nat) (s : State) : Outcome := .next (s.sourceBeat .pulse t)

/-- LOCAL_EXPIRY: the local generator expires (R116). -/
def execLocalExpiry (s : State) : Outcome := .next s.localBeat

/-- SOURCE_SILENT: 3P have passed without a beat of LINE or PULSE (R118). -/
def execSourceSilent (src : Source) (s : State) : Outcome := .next (s.sourceSilence src)

/-- SWITCH_COMPLETE: a beat of the pending source at time t, where it completes the switch (R125; log entry 3). For LOCAL it is
the next expiry. -/
def execSwitchComplete (t : Nat) (s : State) : Outcome :=
  .next
    (match s.switchTo with
    | none => s
    | some .localGen => s.localBeat
    | some src =>
      if (s.monitor src).locked ∧ ((s.monitor src).beat s.period t).locked then s.sourceBeat src t else s)

/-! ## Rows of the Line Interface at a beat -/

/-- ORIGINATE: a driving strand's silence count reaches 2 (R155; log entry 3). -/
def execOriginate (k : StrandId) (s : State) : Outcome :=
  .next (if (s.strand k).silence + 1 = 2 then s.originStep k else s)

/-- RETIRED_NODE_CLEAR: the fourth beat after a node change clears the retired node number (R149; log entry 3). -/
def execRetiredNodeClear (s : State) : Outcome :=
  .next (if s.retired.any fun r => 4 ≤ r.beats + 1 then s.countRetired else s)

/-! ## Requests (R123, R124, R126, R127, R129) -/

/-- A source from its code (R115). -/
def sourceWord (w : Word) : Option Source :=
  if w = 0 then some .line else if w = 1 then some .pulse else if w = 2 then some .localGen else none

/-- SOURCE_SELECT after the general checks (R124). -/
def sourceSelectBody (n keep : Word) (s : State) : Answer :=
  if s.freeze then .error .frozen
  else
    match sourceWord n, flagWord keep with
    | some src, some keep =>
      if keep ∧ s.busy then .error .busy
      else
        let t := if keep then s.setConfig fun c => { c with startSource := src } else s
        if src = s.current then .ok (t, [1]) else .ok ({ t with switchTo := some src }, [0])
    | _, _ => .error .range

/-- SOURCE_SELECT (R124). -/
def execSourceSelect (q : ReqHead) (n keep : Word) (s : State) : Outcome := .next (s.answer 13 q (sourceSelectBody n keep))

/-- SOURCE_CANCEL after the general checks (R126). -/
def sourceCancelBody (s : State) : Answer :=
  match s.switchTo with
  | some _ => .ok ({ s with switchTo := none }, [])
  | none => .error .state

/-- SOURCE_CANCEL (R126). -/
def execSourceCancel (q : ReqHead) (s : State) : Outcome := .next (s.answer 14 q sourceCancelBody)

/-- SOURCE_FREEZE after the general checks (R127). -/
def sourceFreezeBody (s : State) : Answer := .ok ({ s with freeze := true }, [])

/-- SOURCE_FREEZE (R127). -/
def execSourceFreeze (q : ReqHead) (s : State) : Outcome := .next (s.answer 15 q sourceFreezeBody)

/-- SET_BEAT_PERIOD taken at time t, after the general checks (R129). -/
def setBeatPeriodBody (p : Word) (t : Nat) (s : State) : Answer :=
  if s.busy then .error .busy
  else if s.anyDriving then .error .state
  else if s.switchTo.isSome then .error .state
  else
    match rangeWord 4 40 p with
    | none => .error .range
    | some period =>
      .ok
        ({ s.setConfig fun c => { c with period } with
            now := max s.now t, localNext := some (t + 1000 * period)
            lineMon := Monitor.restart t, pulseMon := Monitor.restart t }, [])

/-- SET_BEAT_PERIOD (R129). -/
def execSetBeatPeriod (q : ReqHead) (p : Word) (t : Nat) (s : State) : Outcome :=
  .next (s.answer 16 q (setBeatPeriodBody p t))

/-- FAIL_CLEAR after the general checks (R123). -/
def failClearBody (s : State) : Answer :=
  if s.current = .localGen then .ok (if s.fail then s.clearFail else s, []) else .error .state

/-- FAIL_CLEAR (R123). -/
def execFailClear (q : ReqHead) (s : State) : Outcome := .next (s.answer 17 q failClearBody)

end Sys2Proof.Machine
end

