-- ==== Sys2Proof/Machine/Resets.lean ====
section
/-! DEFINITION. The two kinds of reset, PART_RESET and the end of the start-up load (R3, R69, R90, R91, R105, R130, R131, R158, R167, R168, R170, R171). -/

namespace Sys2Proof.Machine

/-- A power-on reset: every block at its power-on values and the start-up load begun; the stored image, its marker and the
one-time area stand, and so do the pins, the queue and what has left on DOWN (R3, R159, R165). -/
def State.powerOn (s : State) : State :=
  { State.reset with
    pending := s.pending, down := s.down, key := s.key, now := s.now, fresh := s.fresh
    stored := s.stored, incomplete := s.incomplete, oneTime := s.oneTime }

/-- POWER_ON_RESET (R3). -/
def execPowerOnReset (s : State) : Outcome := .next s.powerOn

/-- The end of the start-up load at time t: the working image, the Beat Unit's generator, monitors and pending start-up
source, and STORE_INCOMPLETE (R130, R158, R167). -/
def State.endLoad (s : State) (t : Nat) : State :=
  let i := s.loadedImage
  let s1 := { s with
    working := i, loading := false, now := max s.now t, localNext := some (t + 1000 * i.config.period)
    lineMon := Monitor.restart t, pulseMon := Monitor.restart t
    switchTo := if i.config.startSource = .localGen then none else some i.config.startSource }
  if s.incomplete then s1.raise .storeIncomplete none 0 else s1

/-- START_UP_LOAD_DONE (R167; log entry 2 for a part that is not loading). -/
def execStartUpLoadDone (t : Nat) (s : State) : Outcome := .next (if s.loading then s.endLoad t else s)

/-- The records of a strand after a warm reset: the PASSIVE column of R2 and the reset values of every record, with release
pending set for a strand that was rewriting frames and kept otherwise (R3, R158). -/
def Strand.warm (x : Strand) : Strand :=
  { ctx := { releasePending := x.ctx.releasePending || x.ctx.driving } }

/-- A warm reset (R3, R69, R90, R91, R105, R131, R158 to R160, R168, R170, R171). -/
def State.warmReset (s : State) : State :=
  { forStrands strandIds (fun k s => s.upd k Strand.warm) s with
    retired := none, plantIn := {}, pointer := 0, budget := 0, deficit := 0
    change := .clear, loweringCount := 0, swapCount := 0, dip := .normal, dipCount := 0
    switchTo := none, fail := false, latchOpen := false, alarms := [], counters := {}, watch := none }

/-- WARM_RESET (R3). -/
def execWarmReset (s : State) : Outcome := .next s.warmReset

/-- PART_RESET: the reply, and then the warm reset as the next event of the part (R158; log entry 10). -/
def execPartReset (q : ReqHead) (s : State) : Outcome :=
  .next
    (if s.isOwn q.origin then s
    else if s.loading then s.reply 22 q .busy []
    else (s.reply 22 q .ok []).warmReset)

end Sys2Proof.Machine
end

