-- ==== Sys2Proof/Machine/Store.lean ====
section
/-! DEFINITION. The Profile Store (chapter 10): the edit latch, table writes and reads with their validity rules (R28 to R35, R48, R49, R162), protection, commit and limits lock. -/

namespace Sys2Proof.Machine

/-! ## Records from field words -/

/-- A segment record from its seven words (R29, R30). -/
def readSegment : List Word → Option Segment
  | [used, target, rate, dwell, confirm, cooling, next] =>
    match flagWord used, rangeWord 0 8000 target, rangeWord 1 4095 rate, flagWord confirm, optionalTable cooling,
        segIndexWord next with
    | some used, some target, some rate, some confirm, some cooling, some next =>
      some { used, target, rate, minDwell := dwell.toNat, confirm, cooling, next }
    | _, _, _, _, _, _ => none
  | _ => none

/-- The seven words of a segment record (R30). -/
def Segment.words (g : Segment) : List Word :=
  [word g.used.toNat, word g.target, word g.rate, word g.minDwell, word g.confirm.toNat,
    word ((g.cooling.map fun t => t.val).getD 255), word (segIndexCode (some g.next))]

/-- An end action from its word (R30). -/
def readEndAction (w : Word) : Option EndAction := if w = 0 then some .stay else if w = 1 then some .handback else none

/-- The word of an end action (R30). -/
def EndAction.code : EndAction → Nat
  | .stay => 0
  | .handback => 1

/-- A profile record from its ten words (R28, R30). -/
def readProfile : List Word → Option Profile
  | [valid, first, cooling, hold, release, trip, count, reentry, action, tag] =>
    match flagWord valid, strandNumber first, tableNumber cooling, rangeWord 0 1000 hold, rangeWord 0 1000 release,
        rangeWord 0 1000 trip, rangeWord 1 255 count, strandNumber reentry, readEndAction action with
    | some valid, some first, some cooling, some holdBand, some releaseBand, some tripBand, some tripCount, some reentry,
        some endAction =>
      some { valid, first, cooling, holdBand, releaseBand, tripBand, tripCount, reentry, endAction, tag := tag.toNat }
    | _, _, _, _, _, _, _, _, _ => none
  | _ => none

/-- The ten words of a profile record (R30). -/
def Profile.words (p : Profile) : List Word :=
  [word p.valid.toNat, word p.first, word p.cooling, word p.holdBand, word p.releaseBand, word p.tripBand, word p.tripCount,
    word p.reentry, word p.endAction.code, word p.tag]

/-- The valid flag and zone of a COOLING write from its five words (R48, R49). -/
def readCooling : List Word → Option (Bool × CoolZone)
  | [valid, coef, offset, lo, hi] =>
    match flagWord valid, rangeWord 0 2000 coef, rangeWord 0 4000 offset, rangeWord 0 4000 lo, rangeWord 0 4000 hi with
    | some valid, some coef, some offset, some tableMin, some tableMax =>
      if tableMin ≤ tableMax then some (valid, { coef, offset, tableMin, tableMax }) else none
    | _, _, _, _, _ => none
  | _ => none

/-- Part 0 of the plant table from its ten words, into a plant table (R162). -/
def readPlant0 (pl : Plant) : List Word → Option Plant
  | [speed, rate, lowering, swap, release, swapWin, dip, starvation, deficit, blend] =>
    match rangeWord 0 8000 speed, rangeWord 1 4095 rate, rangeWord 1 65535 lowering, rangeWord 0 1000 swap,
        rangeWord 0 1000 release, rangeWord 1 65535 swapWin, rangeWord 1 65535 dip, rangeWord 1 65535 starvation,
        rangeWord 1 65535 deficit, rangeWord 1 1000 blend with
    | some changeSpeed, some changeRate, some loweringWindow, some swapThreshold, some releaseThreshold, some swapWindow,
        some dipWindow, some starvationLimit, some deficitLimit, some blendBeats =>
      if swapThreshold ≤ releaseThreshold then
        some { pl with changeSpeed, changeRate, loweringWindow, swapThreshold, releaseThreshold, swapWindow, dipWindow,
                       starvationLimit, deficitLimit, blendBeats }
      else none
    | _, _, _, _, _, _, _, _, _, _ => none
  | _ => none

/-- Part 1 of the plant table from its five words, into a plant table; the global table must be valid (R162). -/
def readPlant1 (tables : Vector CoolTable 16) (pl : Plant) : List Word → Option Plant
  | [loss, frozen, clear, substitute, table] =>
    match rangeWord 1 65535 loss, rangeWord 1 65535 frozen, rangeWord 2 255 clear, optionalTable table with
    | some lossWindow, some frozenCount, some clearCount, some globalTable =>
      if globalTable.all fun t => (tables[t]).valid then
        some { pl with lossWindow, frozenCount, clearCount, lossSubstitute := substitute.toNat, globalTable }
      else none
    | _, _, _, _ => none
  | _ => none

/-- The words of a part of the plant table (R162). -/
def Plant.words (pl : Plant) : Bool → List Word
  | false =>
    [word pl.changeSpeed, word pl.changeRate, word pl.loweringWindow, word pl.swapThreshold, word pl.releaseThreshold,
      word pl.swapWindow, word pl.dipWindow, word pl.starvationLimit, word pl.deficitLimit, word pl.blendBeats]
  | true =>
    [word pl.lossWindow, word pl.frozenCount, word pl.clearCount, word pl.lossSubstitute,
      word ((pl.globalTable.map fun t => t.val).getD 255)]

/-- Part 0 of the limits table from its five words (R162). -/
def readLimits0 : List Word → Option LimitsSpeed
  | [speed, rate, reserve, band, count] =>
    match rangeWord 100 8000 speed, rangeWord 1 4095 rate, rangeWord 0 8000 band, rangeWord 1 65535 count with
    | some maxSpeed, some maxRate, some followBand, some followCount =>
      some { maxSpeed, maxRate, reserve := reserve.toNat, followBand, followCount }
    | _, _, _, _ => none
  | _ => none

/-- Floor, ceiling and trip flow of a zone agree: floor ≤ ceiling ≤ 4000, trip flow within them (R162). -/
def zoneLimitsOk (lo hi trip : Word) : Bool :=
  lo.toNat ≤ hi.toNat ∧ hi.toNat ≤ 4000 ∧ lo.toNat ≤ trip.toNat ∧ trip.toNat ≤ hi.toNat

/-- Part 1 of the limits table from its twelve words (R162). -/
def readLimits1 : List Word → Option LimitsFlow
  | [f1, f2, f3, f4, c1, c2, c3, c4, t1, t2, t3, t4] =>
    if zoneLimitsOk f1 c1 t1 ∧ zoneLimitsOk f2 c2 t2 ∧ zoneLimitsOk f3 c3 t3 ∧ zoneLimitsOk f4 c4 t4 then
      some { floor := ⟨f1.toNat, f2.toNat, f3.toNat, f4.toNat⟩, ceiling := ⟨c1.toNat, c2.toNat, c3.toNat, c4.toNat⟩
             trip := ⟨t1.toNat, t2.toNat, t3.toNat, t4.toNat⟩ }
    else none
  | _ => none

/-- The five words of part 0 of the limits table (R162). -/
def LimitsSpeed.words (l : LimitsSpeed) : List Word :=
  [word l.maxSpeed, word l.maxRate, word l.reserve, word l.followBand, word l.followCount]

/-- The twelve words of part 1 of the limits table (R162). -/
def LimitsFlow.words (l : LimitsFlow) : List Word := (l.floor.toList ++ l.ceiling.toList ++ l.trip.toList).map word

/-! ## Validity (R32 to R34, R49) -/

/-- The segment numbers of a profile. -/
def segIds : List (Fin 8) := [0, 1, 2, 3, 4, 5, 6, 7]

/-- The three level bands satisfy release band ≤ hold band ≤ trip band (R28). -/
def Profile.bandsOk (p : Profile) : Bool := p.releaseBand ≤ p.holdBand ∧ p.holdBand ≤ p.tripBand

/-- A used segment leads to a used segment of the profile or to END, and its override names a valid table (R32). -/
def segmentOk (tables : Vector CoolTable 16) (segs : Vector Segment 8) (g : Segment) : Bool :=
  (match g.next with
    | .seg n => (segs[n]).used
    | .atEnd => true)
    && g.cooling.all fun t => (tables[t]).valid

/-- A profile record with its segments and tables passes the checks of R32. -/
def profileOk (tables : Vector CoolTable 16) (segs : Vector Segment 8) (p : Profile) : Bool :=
  p.bandsOk
    && (!p.valid
      || ((segs[p.first]).used && (segs[p.reentry]).used && (tables[p.cooling]).valid
        && segIds.all fun n => !(segs[n]).used || segmentOk tables segs segs[n]))

/-- A valid profile names a table, as its own or as the override of one of its used segments (R34). -/
def Image.namesTable (i : Image) (t : TableId) : Bool :=
  (List.finRange 32).any fun p =>
    (i.profile p).valid
      && ((i.profile p).cooling = t || segIds.any fun n => (i.segment p n).used && (i.segment p n).cooling = some t)

/-! ## In use and protected (R161, R164) -/

/-- A strand in RAMPING or HOLDING runs the profile (R161). -/
def State.profileInUse (s : State) (p : ProfileId) : Bool :=
  strandIds.any fun k => (s.ctx k).running ∧ (s.ctx k).profile = some p

/-- A strand's use of a cooling table: through the profile it runs, a grant record, or its pin (R161). -/
def State.strandUsesTable (s : State) (t : TableId) (k : StrandId) : Bool :=
  let x := s.strand k
  (x.ctx.running
      && (match x.ctx.profile with
        | some p => (s.working.profile p).cooling = t || segIds.any fun n => (s.working.segment p n).cooling = some t
        | none => false))
    || x.grant.table = some t || x.shadowGrant.table = some t
    || (x.pin = some t && (x.ctx.driving || x.ctx.shadowRun))

/-- A cooling table is in use (R161). -/
def State.tableInUse (s : State) (t : TableId) : Bool :=
  (strandIds.any fun k => s.strandUsesTable t k)
    || (s.plant.globalTable = some t && (s.anyDriving || s.anyShadow))

/-- The limits table is in use (R161). -/
def State.limitsInUse (s : State) : Bool := s.anyDriving || s.anyShadow

/-- The profiles a range code protects (R164). -/
def rangeProtects (code : Nat) (p : ProfileId) : Bool :=
  match code with
  | 1 => p.val ≤ 7
  | 2 => p.val ≤ 15
  | 3 => p.val ≤ 23
  | 4 => true
  | 5 => 24 ≤ p.val
  | 6 => 16 ≤ p.val
  | 7 => 8 ≤ p.val
  | _ => false

/-! ## The edit latch (R160) -/

/-- TABLE_OPEN after the general checks (R160). -/
def tableOpenBody (s : State) : Answer := if s.busy then .error .busy else .ok ({ s with latchOpen := true }, [])

/-- TABLE_OPEN (R160). -/
def execTableOpen (q : ReqHead) (s : State) : Outcome := .next (s.answer 23 q tableOpenBody)

/-- TABLE_CLOSE after the general checks (R160). -/
def tableCloseBody (s : State) : Answer := .ok ({ s with latchOpen := false }, [])

/-- TABLE_CLOSE (R160). -/
def execTableClose (q : ReqHead) (s : State) : Outcome := .next (s.answer 24 q tableCloseBody)

/-! ## TABLE_WRITE (R161) -/

/-- The own checks of TABLE_WRITE in their order; `image` is the working image with the write done, or `none` for a RANGE
refusal (R161). -/
def State.writeTable (s : State) (guarded inUse locked : Bool) (image : Option Image) : Answer :=
  if ¬ s.latchOpen then .error .closed
  else if s.busy then .error .busy
  else if guarded then .error .guarded
  else if inUse then .error .inUse
  else if locked then .error .locked
  else
    match image with
    | some i => .ok ({ s with working := i }, [])
    | none => .error .range

/-- The profile and segment a SEGMENT index names: profile × 8 + segment (R30). -/
def segmentAddress (index : Word) : Option (ProfileId × Fin 8) :=
  if h : index.toNat < 256 then some (⟨index.toNat / 8, by omega⟩, ⟨index.toNat % 8, by omega⟩) else none

/-- The working image with a segment record replaced, where the write keeps the profile valid (R33). -/
def Image.putSegment (i : Image) (p : ProfileId) (n : Fin 8) (g : Segment) : Option Image :=
  let segs := (i.segments[p]).set n g
  if !(i.profile p).valid || profileOk i.tables segs (i.profile p) then some { i with segments := i.segments.set p segs } else none

/-- TABLE_WRITE of kind SEGMENT after the general checks (R33, R161). -/
def writeSegmentBody (index : Word) (fields : List Word) (s : State) : Answer :=
  match segmentAddress index with
  | some (p, n) =>
    s.writeTable (rangeProtects s.working.config.rangeCode p) (s.profileInUse p) false
      ((readSegment fields).bind (s.working.putSegment p n))
  | none => s.writeTable false false false none

/-- TABLE_WRITE of kind SEGMENT (R33). -/
def execTableWriteSegment (q : ReqHead) (index : Word) (fields : List Word) (s : State) : Outcome :=
  .next (s.answerSized 25 q (tableLengthOk 0 index fields) (writeSegmentBody index fields))

/-- The working image with a profile record replaced, where it passes R32. -/
def Image.putProfile (i : Image) (p : ProfileId) (r : Profile) : Option Image :=
  if profileOk i.tables i.segments[p] r then some { i with profiles := i.profiles.set p r } else none

/-- TABLE_WRITE of kind PROFILE after the general checks (R32, R161). -/
def writeProfileBody (index : Word) (fields : List Word) (s : State) : Answer :=
  match profileNumber index with
  | some p =>
    s.writeTable (rangeProtects s.working.config.rangeCode p) (s.profileInUse p) false
      ((readProfile fields).bind (s.working.putProfile p))
  | none => s.writeTable false false false none

/-- TABLE_WRITE of kind PROFILE (R32). -/
def execTableWriteProfile (q : ReqHead) (index : Word) (fields : List Word) (s : State) : Outcome :=
  .next (s.answerSized 25 q (tableLengthOk 1 index fields) (writeProfileBody index fields))

/-- One zone of four replaced; `z` is the zone number less 1. -/
def Zones.put {α : Type} (a : Zones α) (z : Nat) (v : α) : Zones α :=
  match z with
  | 0 => { a with z1 := v }
  | 1 => { a with z2 := v }
  | 2 => { a with z3 := v }
  | _ => { a with z4 := v }

/-- One zone of four; `z` is the zone number less 1. -/
def Zones.at {α : Type} (a : Zones α) (z : Nat) : α :=
  match z with
  | 0 => a.z1
  | 1 => a.z2
  | 2 => a.z3
  | _ => a.z4

/-- The table and zone a COOLING index names: table × 4 + zone − 1 (R48). -/
def coolingAddress (index : Word) : Option (TableId × Nat) :=
  if h : index.toNat < 64 then some (⟨index.toNat / 4, by omega⟩, index.toNat % 4) else none

/-- A cooling table must stay valid: a valid profile, the plant table or a pin names it (R34, R49). -/
def State.tableNamed (s : State) (t : TableId) : Bool :=
  s.working.namesTable t || s.plant.globalTable = some t || strandIds.any fun k => (s.strand k).pin = some t

/-- The working image with one zone of a cooling table replaced and the table's valid flag set to word 1 (R48, R49). -/
def State.putCooling (s : State) (t : TableId) (z : Nat) (w : Bool × CoolZone) : Option Image :=
  let old := s.working.tables[t]
  if ¬ w.1 ∧ old.valid ∧ s.tableNamed t then none
  else some { s.working with tables := s.working.tables.set t { valid := w.1, zones := Zones.put old.zones z w.2 } }

/-- TABLE_WRITE of kind COOLING after the general checks (R49, R161). -/
def writeCoolingBody (index : Word) (fields : List Word) (s : State) : Answer :=
  match coolingAddress index with
  | some (t, z) =>
    s.writeTable s.working.config.coolingFlag (s.tableInUse t) false ((readCooling fields).bind (s.putCooling t z))
  | none => s.writeTable false false false none

/-- TABLE_WRITE of kind COOLING (R49). -/
def execTableWriteCooling (q : ReqHead) (index : Word) (fields : List Word) (s : State) : Outcome :=
  .next (s.answerSized 25 q (tableLengthOk 2 index fields) (writeCoolingBody index fields))

/-- The plant table with a part replaced; `none` for another index or a field out of range (R162). -/
def Image.putPlant (i : Image) (index : Word) (fields : List Word) : Option Image :=
  if index = 0 then (readPlant0 i.plant fields).map fun pl => { i with plant := pl }
  else if index = 1 then (readPlant1 i.tables i.plant fields).map fun pl => { i with plant := pl }
  else none

/-- TABLE_WRITE of kind PLANT after the general checks (R161, R162). -/
def writePlantBody (index : Word) (fields : List Word) (s : State) : Answer :=
  s.writeTable false false false (s.working.putPlant index fields)

/-- TABLE_WRITE of kind PLANT (R162). -/
def execTableWritePlant (q : ReqHead) (index : Word) (fields : List Word) (s : State) : Outcome :=
  .next (s.answerSized 25 q (tableLengthOk 3 index fields) (writePlantBody index fields))

/-- The limits table with a part replaced and present; `none` for another index or a field out of range (R162). -/
def Image.putLimits (i : Image) (index : Word) (fields : List Word) : Option Image :=
  if index = 0 then (readLimits0 fields).map fun l => { i with limitsSpeed := some l }
  else if index = 1 then (readLimits1 fields).map fun l => { i with limitsFlow := some l }
  else none

/-- TABLE_WRITE of kind LIMITS after the general checks; the in-use check does not fail for an index other than 0 or 1
(R161, R162). -/
def writeLimitsBody (index : Word) (fields : List Word) (s : State) : Answer :=
  s.writeTable false (s.limitsInUse ∧ (index = 0 ∨ index = 1)) s.oneTime.isSome (s.working.putLimits index fields)

/-- TABLE_WRITE of kind LIMITS (R162). -/
def execTableWriteLimits (q : ReqHead) (index : Word) (fields : List Word) (s : State) : Outcome :=
  .next (s.answerSized 25 q (tableLengthOk 4 index fields) (writeLimitsBody index fields))

/-- TABLE_WRITE of a kind outside 0 to 4 after the general checks: CLOSED, BUSY, or RANGE (R161). -/
def writeNoKindBody (s : State) : Answer := s.writeTable false false false none

/-! ## TABLE_READ (R163) -/

/-- The words of a record or part, or the refusal (R163). -/
def State.readTable (s : State) (kind : Nat) (index : Word) : Except Result (List Word) :=
  match kind with
  | 0 =>
    match segmentAddress index with
    | some (p, n) => .ok (s.working.segment p n).words
    | none => .error .range
  | 1 =>
    match profileNumber index with
    | some p => .ok (s.working.profile p).words
    | none => .error .range
  | 2 =>
    match coolingAddress index with
    | some (t, z) =>
      let c := s.working.tables[t]
      let zone := Zones.at c.zones z
      .ok [word c.valid.toNat, word zone.coef, word zone.offset, word zone.tableMin, word zone.tableMax]
    | none => .error .range
  | 3 => if index = 0 then .ok (s.plant.words false) else if index = 1 then .ok (s.plant.words true) else .error .range
  | 4 =>
    if index = 0 then
      match s.working.limitsSpeed with
      | some l => .ok l.words
      | none => .error .noLimits
    else if index = 1 then
      match s.working.limitsFlow with
      | some l => .ok l.words
      | none => .error .noLimits
    else .error .range
  | _ => .error .range

/-- TABLE_READ after the general checks (R163). -/
def tableReadBody (kind index : Word) (s : State) : Answer :=
  match s.readTable kind.toNat index with
  | .ok ws => .ok (s, ws)
  | .error r => .error r

/-- TABLE_READ (R163). -/
def execTableRead (q : ReqHead) (kind index : Word) (s : State) : Outcome := .next (s.answer 26 q (tableReadBody kind index))

/-! ## Protection and store operations (R164 to R166) -/

/-- The protect-lock flag of the stored image; a blank or INCOMPLETE stored image counts as clear (R164). -/
def State.storedProtectLock (s : State) : Bool :=
  match s.stored with
  | some i => ¬ s.incomplete ∧ i.config.protectLock
  | none => false

/-- PROTECT_SET after the general checks (R164). -/
def protectSetBody (range cooling lock : Word) (key : KeyPos) (s : State) : Answer :=
  if ¬ s.latchOpen then .error .closed
  else if s.busy then .error .busy
  else if s.storedProtectLock ∧ key = .run then .error .locked
  else
    match rangeWord 0 7 range, flagWord cooling, flagWord lock with
    | some rangeCode, some coolingFlag, some protectLock =>
      .ok (s.setConfig fun c => { c with rangeCode, coolingFlag, protectLock }, [])
    | _, _, _ => .error .range

/-- PROTECT_SET, with the level of the KEY line at its arrival (R164; log entry 13). -/
def execProtectSet (q : ReqHead) (range cooling lock : Word) (key : KeyPos) (s : State) : Outcome :=
  .next (State.answer { s with key } 28 q (protectSetBody range cooling lock key))

/-- The contents a COMMIT writes: the working image, its limits section as the stored image had it while the one-time area
holds the lock (R165). -/
def State.commitImage (s : State) : Image :=
  match s.oneTime with
  | none => s.working
  | some _ =>
    { s.working with
      limitsSpeed := s.stored.bind fun i => i.limitsSpeed
      limitsFlow := s.stored.bind fun i => i.limitsFlow }

/-- COMMIT after the general checks (R165). -/
def commitBody (s : State) : Answer :=
  if ¬ s.latchOpen then .error .closed
  else if s.busy then .error .busy
  else .ok ({ s with incomplete := true, op := .commit s.commitImage }, [])

/-- COMMIT (R165). -/
def execCommit (q : ReqHead) (s : State) : Outcome := .next (s.answer 27 q commitBody)

/-- COMMIT_DONE: the commit in progress completes (R165; log entries 2 and 26). -/
def execCommitDone (s : State) : Outcome :=
  .next
    (match s.op with
    | .commit i =>
      { s with stored := some i, incomplete := false, op := .idle, latchOpen := false }.raise .commitDone none 0
    | _ => s)

/-- LIMITS_LOCK after the general checks (R166). -/
def limitsLockBody (s : State) : Answer :=
  if ¬ s.latchOpen then .error .closed
  else if s.busy then .error .busy
  else if s.oneTime.isSome then .error .locked
  else
    match s.limits with
    | none => .error .noLimits
    | some l => .ok ({ s with op := .lock l }, [])

/-- LIMITS_LOCK (R166). -/
def execLimitsLock (q : ReqHead) (s : State) : Outcome := .next (s.answer 29 q limitsLockBody)

/-- LOCK_DONE: the limits lock in progress completes (R166; log entry 2). -/
def execLockDone (s : State) : Outcome :=
  .next
    (match s.op with
    | .lock l => { s with oneTime := some l, op := .idle, latchOpen := false }.raise .lockDone none 0
    | _ => s)

end Sys2Proof.Machine
end

