-- ==== Sys2Proof/Machine/Line.lean ====
section
/-! DEFINITION. The strand line (chapter 9): what a frame on UP is, the frame rows, and the requests SET_NODE, SET_SLOT_BASE and SET_STRAND_MASK. -/

namespace Sys2Proof.Machine

/-! ## What a frame on UP is (R148, R150) -/

/-- The use of an owned slot (R150). -/
inductive SlotUse where
  | plant
  | status
  | sensor (k : StrandId)
  | actuator (k : StrandId)
deriving DecidableEq, Repr

/-- The payload length of an owned slot (R147). -/
def SlotUse.length : SlotUse → Nat
  | .plant => 4
  | .status => 16
  | .sensor _ => 4
  | .actuator _ => 6

/-- The use the slot map gives a slot number; `none` where the part does not own it (R150). -/
def StoredConfig.slotUse (c : StoredConfig) (slot : Byte) : Option SlotUse :=
  match c.slotBase, c.mask with
  | some b, some _ =>
    let n := slot.toNat
    if n = b then some .plant
    else if n = b + 1 then some .status
    else
      (strandIds.find? fun k => n = b + 2 + 2 * k.val ∨ n = b + 3 + 2 * k.val).bind fun k =>
        if c.inMask k then some (if n = b + 2 + 2 * k.val then .sensor k else .actuator k) else none
  | _, _ => none

/-- What a frame arriving on UP is to the part (R148, R150, R157). -/
inductive FrameUse where
  | bad
  | own
  | beat
  | slot (u : SlotUse)
  | malformed
  | request
  | passes
deriving DecidableEq, Repr

/-- A frame is judged on its framing, then its originator, then its kind (R148, R150). -/
def State.frameUse (s : State) (f : Frame) : FrameUse :=
  if 16 < f.payload.length then .bad
  else if s.isOwn f.origin then .own
  else if f.kind = 1 then .beat
  else if f.kind = 2 then
    match s.config.slotUse f.low with
    | some u => if f.payload.length = u.length then .slot u else .malformed
    | none => .passes
  else if f.kind = 3 ∧ f.low = s.config.node then .request
  else .passes

/-! ## Frames of the owned slots (R152 to R154) -/

/-- A sensor-slot frame: sent on unchanged and delivered as a sample; only sent on during the start-up load (R152, R158). -/
def State.sensorFrame (s : State) (k : StrandId) (f : Frame) : State :=
  match f.payload with
  | [a, b, c, d] => if s.loading then s.send f else (s.send f).takeSensor k (readSensor a b c d)
  | _ => s.send f

/-- A plant-slot frame: sent on unchanged and delivered as a sample; only sent on during the start-up load (R152, R158). -/
def State.plantFrame (s : State) (f : Frame) : State :=
  match f.payload with
  | [a, b, c, d] => if s.loading then s.send f else (s.send f).takePlant (readPlant a b c d)
  | _ => s.send f

/-- A status-slot frame is filled with the status content (R152, R158, R172). -/
def State.statusFrame (s : State) (f : Frame) : State := s.send { f with payload := s.statusWords }

/-- The master's values replace the observed record of a strand that is not PASSIVE, and its silence count and originating
flag end (R153, R155). -/
def Strand.observe (o : Observed) (x : Strand) : Strand :=
  { x with observed := if x.ctx.state = .passive then x.observed else some o, silence := 0, originating := false }

/-- The frame of a driving strand as it leaves on DOWN (R154). -/
def rewrittenFrame (f : Frame) (control : Word) (x : Strand) : Frame :=
  { f with payload := x.grant.words ++ [controlRewritten control x.ctx.state] }

/-- A master actuator frame is sent on according to the strand's state, after observation and claim; a frame that is not
rewritten pays release pending and a due claim answer (R154). -/
def State.sendActuator (s : State) (k : StrandId) (f : Frame) (values : List Word) (control : Word) (granted : Bool) : State :=
  let x := s.strand k
  if x.ctx.driving then s.send (rewrittenFrame f control x)
  else
    (s.upd k fun x => { x with ctx := { x.ctx with releasePending := false }, claimDue := false }).send
      { f with payload := values ++ [controlPassed control x.ctx.releasePending (granted || x.claimDue)] }

/-- A master actuator frame of strand k: observed, taken as a claim, sent on (R139, R153, R154); only sent on during the
start-up load (R158). -/
def State.actuatorFrame (s : State) (k : StrandId) (f : Frame) : State :=
  match f.payload with
  | [v, f1, f2, f3, f4, control] =>
    if s.loading then s.send f
    else
      let o : Observed := { speed := v.toNat, flows := ⟨f1.toNat, f2.toNat, f3.toNat, f4.toNat⟩, claim := claimBit control }
      let s1 := s.upd k (Strand.observe o)
      let c := if claimBit control then s1.takeClaim k else ⟨s1, false⟩
      c.state.sendActuator k f [v, f1, f2, f3, f4] control c.granted
  | _ => s.send f

/-- A frame is sent on and counted as BAD_CHECK (R148). -/
def State.countBadCheck (s : State) : State := s.count fun c => { c with badCheck := satInc c.badCheck }

/-- MALFORMED is counted (R150). -/
def State.countMalformed (s : State) : State := s.count fun c => { c with malformed := satInc c.malformed }

/-! ## SET_NODE, SET_SLOT_BASE, SET_STRAND_MASK (R149, R151) -/

/-- SET_NODE after the general checks (R149). -/
def setNodeBody (n : Word) (s : State) : Answer :=
  if s.busy then .error .busy
  else
    match rangeWord 1 254 n with
    | none => .error .range
    | some n =>
      let node : Byte := BitVec.ofNat 8 n
      if node = s.working.config.node then .ok (s, [])
      else
        .ok ({ s.setConfig fun c => { c with node } with retired := some { node := s.working.config.node, beats := 0 } }, [])

/-- SET_NODE (R149). -/
def execSetNode (q : ReqHead) (n : Word) (s : State) : Outcome := .next (s.answer 19 q (setNodeBody n))

/-- The records of a strand whose slot changes: input record reset, release pending and claim answer withdrawn (R90, R151). -/
def Strand.unmap (x : Strand) : Strand :=
  { x with ctx := { x.ctx with releasePending := false }, claimDue := false, input := {} }

/-- SET_SLOT_BASE after the general checks (R151). -/
def setSlotBaseBody (b : Word) (s : State) : Answer :=
  if s.busy then .error .busy
  else if strandIds.any fun k => (s.ctx k).state ≠ .passive then .error .state
  else
    match rangeWord 0 238 b with
    | none => .error .range
    | some base =>
      let t := forStrands strandIds (fun k s => s.upd k Strand.unmap) (s.setConfig fun c => { c with slotBase := some base })
      .ok ({ t with plantIn := {}, dip := .normal, dipCount := 0 }, [])

/-- SET_SLOT_BASE (R151). -/
def execSetSlotBase (q : ReqHead) (b : Word) (s : State) : Outcome := .next (s.answer 20 q (setSlotBaseBody b))

/-- SET_STRAND_MASK after the general checks (R151). -/
def setStrandMaskBody (m : Word) (s : State) : Answer :=
  if s.busy then .error .busy
  else
    match rangeWord 0 255 m with
    | none => .error .range
    | some m =>
      let mask : Byte := BitVec.ofNat 8 m
      let was := fun k => s.working.config.inMask k
      if strandIds.any fun k => was k ∧ ¬ mask.getLsbD k ∧ (s.ctx k).state ≠ .passive then .error .state
      else
        let removed := strandIds.filter fun k => was k && !mask.getLsbD k
        let added := strandIds.filter fun k => !was k && mask.getLsbD k
        let t := forStrands removed (fun k s => s.upd k Strand.unmap) (s.setConfig fun c => { c with mask := some mask })
        .ok (forStrands added (fun k s => s.upd k fun x => { x with input := {} }) t, [])

/-- SET_STRAND_MASK (R151). -/
def execSetStrandMask (q : ReqHead) (m : Word) (s : State) : Outcome := .next (s.answer 21 q (setStrandMaskBody m))

/-! ## Requests that arrive as frames (R157) -/

/-- The state after a request row; the rows that are no requests do not come out of a request payload. -/
def State.runRequest (s : State) (i : Instr) : State :=
  let out : Outcome :=
    match i with
    | .partReset q => execPartReset q s
    | .track q k => execTrack q k s
    | .untrack q k => execUntrack q k s
    | .start q k p sh => execStart q k p sh s
    | .hold q k => execHold q k s
    | .release q k => execRelease q k s
    | .clearTrip q k => execClearTrip q k s
    | .readContext q k => execReadContext q k s
    | .setArbiter q m p => execSetArbiter q m p s
    | .coolPin q k t => execCoolPin q k t s
    | .changeBegin q => execChangeBegin q s
    | .changeCancel q => execChangeCancel q s
    | .swapConfirm q => execSwapConfirm q s
    | .sourceSelect q n keep => execSourceSelect q n keep s
    | .sourceCancel q => execSourceCancel q s
    | .sourceFreeze q => execSourceFreeze q s
    | .setBeatPeriod q p t => execSetBeatPeriod q p t s
    | .failClear q => execFailClear q s
    | .handback q k => execHandback q k s
    | .setNode q n => execSetNode q n s
    | .setSlotBase q b => execSetSlotBase q b s
    | .setStrandMask q m => execSetStrandMask q m s
    | .tableOpen q => execTableOpen q s
    | .tableClose q => execTableClose q s
    | .tableWriteSegment q n fs => execTableWriteSegment q n fs s
    | .tableWriteProfile q n fs => execTableWriteProfile q n fs s
    | .tableWriteCooling q n fs => execTableWriteCooling q n fs s
    | .tableWritePlant q n fs => execTableWritePlant q n fs s
    | .tableWriteLimits q n fs => execTableWriteLimits q n fs s
    | .tableRead q kind n => execTableRead q kind n s
    | .commit q => execCommit q s
    | .protectSet q r c l key => execProtectSet q r c l key s
    | .limitsLock q => execLimitsLock q s
    | .alarmPop q n => execAlarmPop q n s
    | .countersRead q fl => execCountersRead q fl s
    | .watch q k => execWatch q k s
    | _ => .next s
  match out with
  | .next t => t
  | .fault _ => s
  | .refused _ => s

/-- A REQ frame addressed to the part is consumed and answered (R157); the time and the KEY level are those last known. -/
def State.requestFrame (s : State) (f : Frame) : State :=
  match decodeRequest f.origin s.now s.key f.payload with
  | .wrongLength code tag => s.refuseLength code ⟨f.origin, tag⟩
  | .unknown code tag => s.refuseUnknown code ⟨f.origin, tag⟩
  | .command i => s.runRequest i
  | .writeOfNoKind q => s.answer 25 q writeNoKindBody

/-! ## The frame rows -/

/-- A frame arriving on UP, taken for what R148 and R150 judge it to be. -/
def State.receive (s : State) (f : Frame) : State :=
  match s.frameUse f with
  | .bad => s.countBadCheck.send f
  | .own => s
  | .beat => (s.send f).sourceBeat .line s.now
  | .slot .plant => s.plantFrame f
  | .slot .status => s.statusFrame f
  | .slot (.sensor k) => s.sensorFrame k f
  | .slot (.actuator k) => s.actuatorFrame k f
  | .malformed => s.countMalformed.send f
  | .request => s.requestFrame f
  | .passes => s.send f

/-- UNKNOWN_REQUEST: a REQ frame addressed to the part that the general checks refuse (R157; log entry 22). -/
def execUnknownRequest (f : Frame) (s : State) : Outcome :=
  .next
    (match s.frameUse f with
    | .request => s.requestFrame f
    | _ => s.receive f)

/-- BAD_CHECK_FRAME: words on UP whose length word lies above 16 or whose check is bad go to DOWN unchanged and are counted
(R148; log entries 22 and 23). -/
def execBadCheckFrame (words : List Word) (s : State) : Outcome :=
  .next
    (match Frame.ofWire words with
    | none => { s.countBadCheck with down := s.down ++ [words] }
    | some f => s.receive f)

/-- OWN_FRAME_RETURN: a frame of the part's own is removed (R148; log entry 22). -/
def execOwnFrameReturn (f : Frame) (s : State) : Outcome :=
  .next
    (match s.frameUse f with
    | .own => s
    | _ => s.receive f)

/-- PASS_THROUGH_FRAME: a frame the part does not use goes to DOWN unchanged (R148, R150; log entry 22). -/
def execPassThroughFrame (f : Frame) (s : State) : Outcome :=
  .next
    (match s.frameUse f with
    | .passes => s.send f
    | _ => s.receive f)

/-- MALFORMED_FRAME: a DATA frame of an owned slot with the wrong length goes to DOWN unchanged and is counted (R150; log
entries 22 and 24). -/
def execMalformedFrame (f : Frame) (s : State) : Outcome :=
  .next
    (match s.frameUse f with
    | .malformed => s.countMalformed.send f
    | _ => s.receive f)

/-- BEAT_FRAME: a BEAT frame of another node, arriving at time t, goes to DOWN unchanged and is a beat of LINE (R116, R148;
log entries 22 and 25). -/
def execBeatFrame (f : Frame) (t : Nat) (s : State) : Outcome :=
  .next
    (match s.frameUse f with
    | .beat => (s.send f).sourceBeat .line t
    | _ => s.receive f)

/-- SENSOR_SAMPLE (R75, R152; log entry 22). -/
def execSensorSample (f : Frame) (s : State) : Outcome :=
  .next
    (match s.frameUse f with
    | .slot (.sensor k) => s.sensorFrame k f
    | _ => s.receive f)

/-- PLANT_SAMPLE (R82, R152; log entry 22). -/
def execPlantSample (f : Frame) (s : State) : Outcome :=
  .next
    (match s.frameUse f with
    | .slot .plant => s.plantFrame f
    | _ => s.receive f)

/-- MASTER_ACTUATOR_FRAME (R139, R153, R154; log entry 22). -/
def execMasterActuatorFrame (f : Frame) (s : State) : Outcome :=
  .next
    (match s.frameUse f with
    | .slot (.actuator k) => s.actuatorFrame k f
    | _ => s.receive f)

/-- STATUS_SLOT_FRAME (R152, R172; log entry 22). -/
def execStatusSlotFrame (f : Frame) (s : State) : Outcome :=
  .next
    (match s.frameUse f with
    | .slot .status => s.statusFrame f
    | _ => s.receive f)

end Sys2Proof.Machine
end

