-- ==== Sys2Proof/Machine/Dispatch.lean ====
section
/-! DEFINITION. One arm for each command: the direct call of its meaning. -/

namespace Sys2Proof.Machine

/-- The effect of a command on everything but the queue. -/
def exec (i : Instr) (s : State) : Host.Outcome State Fault Refusal :=
  match i with
  | .powerOnReset => Sys2Proof.Machine.execPowerOnReset s
  | .startUpLoadDone t => Sys2Proof.Machine.execStartUpLoadDone t s
  | .warmReset => Sys2Proof.Machine.execWarmReset s
  | .partReset q => Sys2Proof.Machine.execPartReset q s
  | .track q x => Sys2Proof.Machine.execTrack q x s
  | .untrack q x => Sys2Proof.Machine.execUntrack q x s
  | .start q x p shadow => Sys2Proof.Machine.execStart q x p shadow s
  | .hold q x => Sys2Proof.Machine.execHold q x s
  | .release q x => Sys2Proof.Machine.execRelease q x s
  | .clearTrip q x => Sys2Proof.Machine.execClearTrip q x s
  | .readContext q x => Sys2Proof.Machine.execReadContext q x s
  | .setArbiter q mode priorities => Sys2Proof.Machine.execSetArbiter q mode priorities s
  | .coolPin q x t => Sys2Proof.Machine.execCoolPin q x t s
  | .changeBegin q => Sys2Proof.Machine.execChangeBegin q s
  | .changeCancel q => Sys2Proof.Machine.execChangeCancel q s
  | .swapConfirm q => Sys2Proof.Machine.execSwapConfirm q s
  | .sourceSelect q n keep => Sys2Proof.Machine.execSourceSelect q n keep s
  | .sourceCancel q => Sys2Proof.Machine.execSourceCancel q s
  | .sourceFreeze q => Sys2Proof.Machine.execSourceFreeze q s
  | .setBeatPeriod q p t => Sys2Proof.Machine.execSetBeatPeriod q p t s
  | .failClear q => Sys2Proof.Machine.execFailClear q s
  | .handback q x => Sys2Proof.Machine.execHandback q x s
  | .setNode q n => Sys2Proof.Machine.execSetNode q n s
  | .setSlotBase q b => Sys2Proof.Machine.execSetSlotBase q b s
  | .setStrandMask q m => Sys2Proof.Machine.execSetStrandMask q m s
  | .tableOpen q => Sys2Proof.Machine.execTableOpen q s
  | .tableClose q => Sys2Proof.Machine.execTableClose q s
  | .tableWriteSegment q index fields => Sys2Proof.Machine.execTableWriteSegment q index fields s
  | .tableWriteProfile q index fields => Sys2Proof.Machine.execTableWriteProfile q index fields s
  | .tableWriteCooling q index fields => Sys2Proof.Machine.execTableWriteCooling q index fields s
  | .tableWritePlant q index fields => Sys2Proof.Machine.execTableWritePlant q index fields s
  | .tableWriteLimits q index fields => Sys2Proof.Machine.execTableWriteLimits q index fields s
  | .tableRead q kind index => Sys2Proof.Machine.execTableRead q kind index s
  | .commit q => Sys2Proof.Machine.execCommit q s
  | .commitDone => Sys2Proof.Machine.execCommitDone s
  | .protectSet q range cooling lock key => Sys2Proof.Machine.execProtectSet q range cooling lock key s
  | .limitsLock q => Sys2Proof.Machine.execLimitsLock q s
  | .lockDone => Sys2Proof.Machine.execLockDone s
  | .alarmPop q n => Sys2Proof.Machine.execAlarmPop q n s
  | .countersRead q flags => Sys2Proof.Machine.execCountersRead q flags s
  | .watch q x => Sys2Proof.Machine.execWatch q x s
  | .unknownRequest f => Sys2Proof.Machine.execUnknownRequest f s
  | .badCheckFrame words => Sys2Proof.Machine.execBadCheckFrame words s
  | .ownFrameReturn f => Sys2Proof.Machine.execOwnFrameReturn f s
  | .passThroughFrame f => Sys2Proof.Machine.execPassThroughFrame f s
  | .malformedFrame f => Sys2Proof.Machine.execMalformedFrame f s
  | .beatFrame f t => Sys2Proof.Machine.execBeatFrame f t s
  | .pulseEdge t => Sys2Proof.Machine.execPulseEdge t s
  | .localExpiry => Sys2Proof.Machine.execLocalExpiry s
  | .sourceSilent src => Sys2Proof.Machine.execSourceSilent src s
  | .switchComplete t => Sys2Proof.Machine.execSwitchComplete t s
  | .blendComplete x => Sys2Proof.Machine.execBlendComplete x s
  | .starved x => Sys2Proof.Machine.execStarved x s
  | .deficit => Sys2Proof.Machine.execDeficit s
  | .inputSilence which => Sys2Proof.Machine.execInputSilence which s
  | .sensorSample f => Sys2Proof.Machine.execSensorSample f s
  | .levelFrozen x => Sys2Proof.Machine.execLevelFrozen x s
  | .inputClear which => Sys2Proof.Machine.execInputClear which s
  | .levelTrip x => Sys2Proof.Machine.execLevelTrip x s
  | .plantSample f => Sys2Proof.Machine.execPlantSample f s
  | .dipWindowExpiry => Sys2Proof.Machine.execDipWindowExpiry s
  | .loweringWindowExpiry => Sys2Proof.Machine.execLoweringWindowExpiry s
  | .swapWindowExpiry => Sys2Proof.Machine.execSwapWindowExpiry s
  | .followTrip x => Sys2Proof.Machine.execFollowTrip x s
  | .masterActuatorFrame f => Sys2Proof.Machine.execMasterActuatorFrame f s
  | .statusSlotFrame f => Sys2Proof.Machine.execStatusSlotFrame f s
  | .originate x => Sys2Proof.Machine.execOriginate x s
  | .retiredNodeClear => Sys2Proof.Machine.execRetiredNodeClear s

end Sys2Proof.Machine
end

