-- ==== Sys2Proof/WellFormed.lean ====
section
/-! DEFINITION. Which commands are well formed: what a sender can put on the line or the pins at all (R147, file 00 Numbering). -/

namespace Sys2Proof

/-- A node number is 1 to 254 (file 00, Numbering). -/
def nodeOk (n : Byte) : Bool := n ≠ 0 ∧ n ≠ 255

/-- A frame of a node, with at most 16 payload words (R147). -/
def Frame.wf (f : Frame) : Bool := nodeOk f.origin ∧ f.payload.length ≤ 16

/-- What a command must satisfy for its row to stand for it: a request comes from a node, the field words of a table write
are as many as its kind and index set, and a frame row's frame has the kind and length of the row. -/
def Instr.wf : Instr → Bool
  | .tableWriteSegment q index fields => nodeOk q.origin ∧ tableLengthOk 0 index fields ∧ fields.length ≤ 12
  | .tableWriteProfile q index fields => nodeOk q.origin ∧ tableLengthOk 1 index fields ∧ fields.length ≤ 12
  | .tableWriteCooling q index fields => nodeOk q.origin ∧ tableLengthOk 2 index fields ∧ fields.length ≤ 12
  | .tableWritePlant q index fields => nodeOk q.origin ∧ tableLengthOk 3 index fields ∧ fields.length ≤ 12
  | .tableWriteLimits q index fields => nodeOk q.origin ∧ tableLengthOk 4 index fields ∧ fields.length ≤ 12
  | .unknownRequest f => f.wf ∧ f.kind = 3
  | .badCheckFrame words => Frame.ofWire words = none
  | .ownFrameReturn f | .passThroughFrame f => f.wf
  | .malformedFrame f => f.wf ∧ f.kind = 2
  | .beatFrame f _ => f.wf ∧ f.kind = 1
  | .sensorSample f | .plantSample f => f.wf ∧ f.kind = 2 ∧ f.payload.length = 4
  | .masterActuatorFrame f => f.wf ∧ f.kind = 2 ∧ f.payload.length = 6
  | .statusSlotFrame f => f.wf ∧ f.kind = 2 ∧ f.payload.length = 16
  | .sourceSilent src => src ≠ .localGen
  | i => (i.head.map fun q => nodeOk q.origin).getD true

end Sys2Proof
end

