-- ==== Sys2Proof/Safety.lean ====
section
/-! DEFINITION. The terms the claims use: when the part answers a request, and what holds of every state the part can be in (a run is safe while its states are sound). -/

namespace Sys2Proof.Machine

/-! ## When a request reaches its owning rule -/

/-- The part takes the requests of q: another node sent them (R148) and the start-up load is over (R157, check 3). -/
abbrev State.answers (s : State) (q : ReqHead) : Prop := s.isOwn q.origin = false ∧ s.loading = false

/-- A word names strand k: the slot map is active, the number is k's, and k is in the mask (R6). -/
abbrev State.names (s : State) (w : Word) (k : StrandId) : Prop :=
  s.config.mapActive = true ∧ w.toNat = k.val ∧ s.config.inMask k = true

/-- Strand k holds the records x instead. -/
def State.withStrand (s : State) (k : StrandId) (x : Strand) : State := { s with strands := s.strands.set k x }

/-- Every strand's records changed at once, each from its own. -/
def State.mapStrands (s : State) (f : StrandId → Strand → Strand) : State :=
  { s with strands := Vector.ofFn fun k => f k (s.strand k) }

/-- After the trips of an event, an emptied enrolled set returns the coordinator to CLEAR with its CHANGE alarm (R92, R102). -/
def State.settled (t : State) : State :=
  if t.change ≠ .clear ∧ ∀ k, (t.strand k).mark = none then { t with change := .clear }.raise .change none 0 else t

/-- The alarms of a sample that takes a strand's inputs from one record to another: LOSS of a frozen level input, LOSS_CLEAR of the
level and then of the speed feedback input (R78 to R80). -/
def State.noteLoss (k : StrandId) (before after : StrandInput) (t : State) : State :=
  let t1 := match before.lvl.loss, after.lvl.loss with
    | .valid, .loss _ => t.raise .loss (some k) 256
    | .loss _, .valid => t.raise .lossClear (some k) 0
    | _, _ => t
  match before.fb.loss, after.fb.loss with
  | .loss _, .valid => t1.raise .lossClear (some k) 1
  | _, _ => t1

/-- The KEY level that PROTECT_SET brings with it (log entry 13). -/
def State.sensing (s : State) (i : Instr) : State :=
  match i with
  | .protectSet _ _ _ _ key => { s with key }
  | _ => s

/-- A context with target and rate loaded again after a change override: from its current segment, or at END from the re-entry
segment, which it enters (R37). -/
def State.reloaded (s : State) (c : Context) : Context :=
  match c.profile, c.segment with
  | some p, some (.seg n) => s.loadSegment (s.working.segment p n) c
  | some p, some .atEnd =>
    let n := (s.working.profile p).reentry
    s.loadSegment (s.working.segment p n) { c with segment := some (.seg n), dwell := 0, confirmSeen := false }
  | _, _ => c

/-- A context re-seeded at dip end from feedback f, with no change override on it: A lowered, the re-entry segment entered, DIP
removed (R112). -/
def State.reseeded (s : State) (f : Nat) (c : Context) : Context :=
  match c.profile with
  | some p =>
    let n := (s.working.profile p).reentry
    let lowered := { c with
      acc := min (min (f * 64) (s.lim.speed.maxSpeed * 64)) c.acc, segment := some (.seg n), dwell := 0, confirmSeen := false }
    { (s.loadSegment (s.working.segment p n) lowered).removeReason .dip with reseed := false }
  | none => c

/-! ## Strand records -/

/-- What R1, R2 and R36 give a context that runs: no cause, no release pending, a profile, a segment index, target and rate. -/
def Context.runSound (c : Context) : Prop :=
  c.cause = none ∧ c.releasePending = false ∧ c.profile.isSome = true ∧ c.segment.isSome = true ∧ c.target.isSome = true
    ∧ c.rate.isSome = true

/-- A context holds what R2 gives its state, and its hold set is empty but in HOLDING, where it is not (R15). -/
def Context.sound (c : Context) : Prop :=
  match c.state with
  | .passive => c = { releasePending := c.releasePending }
  | .tracking => c = { state := .tracking, releasePending := c.releasePending }
  | .ramping => c.hold = {} ∧ c.runSound
  | .holding => c.hold ≠ {} ∧ c.runSound
  | .handback => c = { state := .handback }
  | .tripped => c.cause.isSome = true ∧ c = { state := .tripped, cause := c.cause }

/-- The grant records agree with the state and their demands are the sums of their flows (R57). -/
def Strand.grantsSound (x : Strand) : Prop :=
  (x.ctx.driving = false → x.grant = {}) ∧ (x.ctx.shadowRun = false → x.shadowGrant = {})
    ∧ x.grant.demand = x.grant.flows.sum ∧ x.shadowGrant.demand = x.shadowGrant.flows.sum

/-- The records of a strand agree with its state: context (R2, R15), handback record (R132), enrolled flag (R91), grant records
(R57), observed record (R153), silence count and originating flag (R155), claim answer due (R141). -/
def Strand.sound (x : Strand) : Prop :=
  x.ctx.sound
    ∧ (x.blend.isSome = true ↔ x.ctx.state = .handback)
    ∧ (x.mark.isSome = true ↔ x.ctx.enrolled = true)
    ∧ (x.ctx.enrolled = true → x.ctx.realRun = true)
    ∧ x.grantsSound
    ∧ (x.ctx.state = .passive → x.observed = none)
    ∧ (x.ctx.driving = false → x.silence = 0)
    ∧ x.silence ≤ 2 ∧ (x.originating = true ↔ x.silence = 2)
    ∧ (x.claimDue = true → x.ctx.state = .tracking)

/-- Every strand's records are sound. -/
def State.strandsSound (s : State) : Prop := ∀ k, (s.strand k).sound

/-! ## The queue, the counters and the counts -/

/-- At most 32 alarm records are queued (R168). -/
def State.alarmsSound (s : State) : Prop := s.alarms.length ≤ 32

/-- Every counter lies in 0 to 65535 (R170). -/
def Counters.sound (c : Counters) : Prop :=
  c.badCheck ≤ 65535 ∧ c.malformed ≤ 65535 ∧ c.badRequest ≤ 65535 ∧ c.alarmOverflow ≤ 65535 ∧ c.irregularBeats ≤ 65535
    ∧ c.claimsRefused ≤ 65535 ∧ ∀ k : StrandId, c.trips[k] ≤ 65535

/-! ## The coordinator, the dip monitor, the beat unit -/

/-- The enrolled set is empty exactly when the coordinator is CLEAR (R91). -/
def State.changeSound (s : State) : Prop := s.change = .clear ↔ s.anyEnrolled = false

/-- The dip state follows the dip flag in force, which is false while the plant input is NODATA (R81, R106). -/
def State.dipSound (s : State) : Prop :=
  (s.dip = .dipped ↔ s.plantIn.dip = true) ∧ (s.plantIn.inp.loss = .nodata → s.plantIn.dip = false)

/-- While the fail flag is set the current source is LOCAL (R122), and a pending target is another source than the current
one (R124, R125). -/
def State.beatSound (s : State) : Prop :=
  (s.fail = true → s.current = .localGen) ∧ ∀ src, s.switchTo = some src → src ≠ s.current

/-! ## The start-up load and the store -/

/-- During the start-up load every strand is PASSIVE, the current source is LOCAL with the fail flag clear, there is no
target pending, no pin set, no store operation runs, the latch is closed and the local generator is not started (R3, R69, R130,
R167). -/
def State.loadSound (s : State) : Prop :=
  s.loading = true →
    (∀ k, (s.ctx k).state = .passive ∧ (s.strand k).pin = none) ∧ s.current = .localGen ∧ s.fail = false
      ∧ s.switchTo = none ∧ s.localNext = none ∧ s.op = .idle ∧ s.latchOpen = false

/-- The stored image is marked INCOMPLETE while a commit runs (R165). -/
def State.commitSound (s : State) : Prop := ∀ i, s.op = .commit i → s.incomplete = true

/-- A strand that is not PASSIVE is in the mask of an active slot map (R6, R150). -/
def State.mapSound (s : State) : Prop :=
  ∀ k, (s.ctx k).state ≠ .passive → s.working.config.mapActive = true ∧ s.working.config.inMask k = true

/-! ## Why a strand is held -/

/-- The reasons that a block keeps open are in the hold set of every strand that runs its profile exactly while their
condition holds: SENSOR (R84), BEAT (R122), CHANGE (R96, R100), DIP with its pending re-seed (R107, R112). -/
def State.holdsSound (s : State) : Prop :=
  ∀ k, (s.ctx k).running = true →
    ((s.ctx k).hold.sensor = true ↔ (s.strand k).input.bothValid = false)
      ∧ ((s.ctx k).hold.beat = true ↔ s.fail = true)
      ∧ ((s.ctx k).hold.change = true ↔ (s.ctx k).enrolled = true ∧ (s.change = .atLow ∨ s.change = .swap))
      ∧ ((s.ctx k).hold.dip = true ↔ s.dip = .dipped)
      ∧ ((s.ctx k).reseed = true ↔ (s.ctx k).hold.dip = true)

/-! ## The images -/

/-- The fields of part 0 of a limits table lie in their ranges (R162). -/
def LimitsSpeed.sound (l : LimitsSpeed) : Prop :=
  100 ≤ l.maxSpeed ∧ l.maxSpeed ≤ 8000 ∧ 1 ≤ l.maxRate ∧ l.maxRate ≤ 4095 ∧ l.reserve ≤ 65535 ∧ l.followBand ≤ 8000
    ∧ 1 ≤ l.followCount ∧ l.followCount ≤ 65535

/-- In each zone floor ≤ trip flow ≤ ceiling ≤ 4000 (R162). -/
def LimitsFlow.sound (l : LimitsFlow) : Prop :=
  (l.floor.z1 ≤ l.trip.z1 ∧ l.trip.z1 ≤ l.ceiling.z1 ∧ l.ceiling.z1 ≤ 4000)
    ∧ (l.floor.z2 ≤ l.trip.z2 ∧ l.trip.z2 ≤ l.ceiling.z2 ∧ l.ceiling.z2 ≤ 4000)
    ∧ (l.floor.z3 ≤ l.trip.z3 ∧ l.trip.z3 ≤ l.ceiling.z3 ∧ l.ceiling.z3 ≤ 4000)
    ∧ (l.floor.z4 ≤ l.trip.z4 ∧ l.trip.z4 ≤ l.ceiling.z4 ∧ l.ceiling.z4 ≤ 4000)

/-- The plant fields that set windows, counts and thresholds lie in their ranges (R162). -/
def Plant.sound (p : Plant) : Prop :=
  p.changeSpeed ≤ 8000 ∧ 1 ≤ p.changeRate ∧ p.changeRate ≤ 4095 ∧ 1 ≤ p.loweringWindow
    ∧ p.swapThreshold ≤ p.releaseThreshold ∧ p.releaseThreshold ≤ 1000 ∧ 1 ≤ p.swapWindow ∧ 1 ≤ p.dipWindow
    ∧ 1 ≤ p.starvationLimit ∧ 1 ≤ p.deficitLimit ∧ 1 ≤ p.blendBeats ∧ p.blendBeats ≤ 1000
    ∧ 1 ≤ p.lossWindow ∧ 1 ≤ p.frozenCount ∧ 2 ≤ p.clearCount ∧ p.clearCount ≤ 255

/-- The stored configuration lies in its ranges (R68, R129, R149, R151, R159, R164). -/
def StoredConfig.sound (c : StoredConfig) : Prop :=
  c.node ≠ 0 ∧ c.node ≠ 255 ∧ (∀ b, c.slotBase = some b → b ≤ 238) ∧ (∀ k : StrandId, c.priorities[k] ≤ 3)
    ∧ 4 ≤ c.period ∧ c.period ≤ 40 ∧ c.rangeCode ≤ 7

/-- Every profile of an image passes R32 with its segments and tables, the global cooling table is valid, and the plant table,
the limits table and the configuration lie in their ranges (R32 to R34, R49, R162). -/
def Image.sound (i : Image) : Prop :=
  (∀ p : ProfileId, profileOk i.tables i.segments[p] (i.profile p) = true)
    ∧ (∀ t : TableId, i.plant.globalTable = some t → (i.tables[t]).valid = true)
    ∧ i.plant.sound ∧ i.config.sound
    ∧ (∀ l, i.limitsSpeed = some l → l.sound) ∧ ∀ l, i.limitsFlow = some l → l.sound

/-- The working image, the stored image, the image a commit writes and the limits of the one-time area and of a limits lock
are sound, and every pin names a valid table (R50, R51). -/
def State.imagesSound (s : State) : Prop :=
  s.working.sound ∧ (∀ i, s.stored = some i → i.sound) ∧ (∀ i, s.op = .commit i → i.sound)
    ∧ (∀ l, s.oneTime = some l → l.speed.sound ∧ l.flow.sound) ∧ (∀ l, s.op = .lock l → l.speed.sound ∧ l.flow.sound)
    ∧ ∀ k t, (s.strand k).pin = some t → (s.working.tables[t]).valid = true

/-- A strand running a profile has a valid profile and a segment index naming a used segment of it, or END (R35). -/
def State.runsSound (s : State) : Prop :=
  ∀ k p, (s.ctx k).running = true → (s.ctx k).profile = some p →
    (s.working.profile p).valid = true
      ∧ ∀ n, (s.ctx k).segment = some (.seg n) → (s.working.segment p n).used = true

/-- The limits table is present while any strand runs its profile, blends or is tripped (R9, R161). -/
def State.limitsSound (s : State) : Prop :=
  ∀ k, (s.ctx k).running = true ∨ (s.ctx k).driving = true → s.limits.isSome = true

/-- A running strand's accumulator, effective target and low mark lie within the maximum speed (R36, R40, R95). -/
def State.speedsSound (s : State) : Prop :=
  ∀ k, (s.ctx k).running = true →
    (s.ctx k).acc ≤ s.lim.speed.maxSpeed * 64 ∧ (∀ v, (s.ctx k).target = some v → v ≤ s.lim.speed.maxSpeed)
      ∧ ∀ m, (s.strand k).mark = some m → m ≤ s.lim.speed.maxSpeed * 64

/-- The grant of a running strand carries the zone flows of its speed under its table (R57). -/
def State.flowsSound (s : State) : Prop :=
  ∀ k, ((s.ctx k).realRun = true → ∃ t, (s.strand k).grant = s.grantFor (s.strand k).grant.speed t)
    ∧ ((s.ctx k).shadowRun = true → ∃ t, (s.strand k).shadowGrant = s.grantFor (s.strand k).shadowGrant.speed t)

end Sys2Proof.Machine
end

