-- ==== Sys2Proof/Certificates/Slice0/Obligations.lean ====
section
/-! DEFINITION. The statements for the provers, from the numbered rules of spec/. -/

open Sys2Proof Sys2Proof.Machine

/-! ## The step and the general checks of a request -/

/-- The command at the front of the queue is the one that runs, on a state with the queue's rest; an empty queue idles, by the
model's choice (log entry 1). -/
def Obligations.StepTakesTheFrontCommand : Prop :=
  (∀ (c : Instr) (rest : List Instr) (s : State), step { s with pending := c :: rest } = exec c { s with pending := rest })
  ∧ ∀ s : State, s.pending = [] → step s = .next s

/-- Every command answers a next state: no command faults, none is refused by the model. It leaves the queue as it was; the queue
is the model's own (log entry 1; for POWER_ON_RESET log entry 12). The statement names no effect: what each command does is said
by the statements below. -/
def Obligations.EveryCommandCompletes : Prop :=
  ∀ (c : Instr) (s : State), ∃ t, exec c s = .next t ∧ t.pending = s.pending

/-- A request of the part's own node is removed (R148); during the start-up load every other request is refused BUSY and
changes nothing but DOWN (R157, check 3; R158). That a PROTECT_SET brings the KEY level with it, removed or refused BUSY too, is
the model's choice (log entry 13). -/
def Obligations.RequestsDuringTheLoadReplyBusy : Prop :=
  ∀ (i : Instr) (q : ReqHead) (code : Word) (ps : List Word) (s : State),
    i.head = some q → i.codeAndParams = some (code, ps) → i.wf = true →
      (s.isOwn q.origin = true → exec i s = .next (s.sensing i))
      ∧ (s.isOwn q.origin = false → s.loading = true → exec i s = .next ((s.sensing i).reply code q .busy []))

/-- The check of R6, first of a strand request's own checks. -/
def Obligations.StrandRequestOffTheMapRefused : Prop :=
  ∀ (s : State) (q : ReqHead) (w p sh t : Word), s.answers q → (∀ k, ¬ s.names w k) →
    exec (.track q w) s = .next (s.reply 1 q .state [])
    ∧ exec (.untrack q w) s = .next (s.reply 2 q .state [])
    ∧ exec (.start q w p sh) s = .next (s.reply 3 q .state [])
    ∧ exec (.hold q w) s = .next (s.reply 4 q .state [])
    ∧ exec (.release q w) s = .next (s.reply 5 q .state [])
    ∧ exec (.clearTrip q w) s = .next (s.reply 6 q .state [])
    ∧ exec (.readContext q w) s = .next (s.reply 7 q .state [])
    ∧ exec (.coolPin q w t) s = .next (s.reply 9 q .state [])
    ∧ exec (.handback q w) s = .next (s.reply 18 q .state [])

/-! ## Strand requests (chapter 1) -/

/-- TRACK and UNTRACK (R7, R8, R2): the context takes its values for the new state, the observed record becomes absent
(R153), and UNTRACK withdraws a claim answer due (R141). -/
def Obligations.TrackAndUntrackMoveTheStrand : Prop :=
  ∀ (s : State) (q : ReqHead) (w : Word) (k : StrandId), s.answers q → s.names w k →
    let x := s.strand k
    (x.ctx.state = .passive →
      exec (.track q w) s = .next ((s.withStrand k { x with
        ctx := { state := .tracking, releasePending := x.ctx.releasePending }, observed := none }).reply 1 q .ok []))
    ∧ (x.ctx.state ≠ .passive → exec (.track q w) s = .next (s.reply 1 q .state []))
    ∧ (x.ctx.state = .tracking →
      exec (.untrack q w) s = .next ((s.withStrand k { x with
        ctx := { releasePending := x.ctx.releasePending }, observed := none, claimDue := false }).reply 2 q .ok []))
    ∧ (x.ctx.state ≠ .tracking → exec (.untrack q w) s = .next (s.reply 2 q .state []))

/-- An accepted START: seed, first segment, first hold set, grant seeded by force (R9 to R13, R36, R50, R57); the observed record
becomes absent from PASSIVE (R153), a claim answer due is withdrawn (R141) and origination has not begun (R155). -/
def Obligations.StartBeginsTheRun : Prop :=
  ∀ (s : State) (q : ReqHead) (w pw sh : Word) (k : StrandId) (p : ProfileId) (lim : Limits) (v : Nat),
    s.answers q → s.names w k → s.change = .clear → s.limits = some lim → pw.toNat = p.val →
    (s.working.profile p).valid = true → s.plantIn.dip = false → (s.strand k).input.breakout = false →
    ((s.ctx k).state = .tracking ∧ (∃ o, (s.strand k).observed = some o ∧ o.speed = v)
      ∨ (s.ctx k).state = .passive ∧ (s.strand k).input.fb.loss = .valid ∧ (s.strand k).input.feedback = some v) →
    let x := s.strand k
    let a := min v lim.speed.maxSpeed
    let g := s.working.segment p (s.working.profile p).first
    let table := (x.pin.or (s.plant.globalTable.or g.cooling)).getD (s.working.profile p).cooling
    let hold : HoldSet := { sensor := !x.input.bothValid, beat := s.fail }
    let ctx : Context :=
      { state := if hold = {} then .ramping else .holding, shadow := sh ≠ 0, profile := some p
        segment := some (.seg (s.working.profile p).first), acc := a * 64, target := some (min g.target lim.speed.maxSpeed)
        rate := some (min g.rate lim.speed.maxRate), hold }
    exec (.start q w pw sh) s = .next ((s.withStrand k { x with
        ctx, observed := if x.ctx.state = .passive then none else x.observed, claimDue := false, silence := 0
        originating := false
        grant := if sh = 0 then s.grantFor a table else x.grant
        shadowGrant := if sh = 0 then x.shadowGrant else s.grantFor a table }).reply 3 q .ok [])

/-- The refusals of START in their order (R9, R10). -/
def Obligations.StartRefusalsInOrder : Prop :=
  ∀ (s : State) (q : ReqHead) (w pw sh : Word) (k : StrandId), s.answers q → s.names w k →
    let x := s.strand k
    let refused := fun r => exec (.start q w pw sh) s = .next (s.reply 3 q r [])
    let startable := x.ctx.state = .passive ∨ x.ctx.state = .tracking
    (¬ startable → refused .state)
    ∧ (startable → s.change ≠ .clear → refused .state)
    ∧ (startable → s.change = .clear → s.limits = none → refused .noLimits)
    ∧ (startable → s.change = .clear → s.limits ≠ none →
        (∀ p : ProfileId, p.val = pw.toNat → (s.working.profile p).valid = false) → refused .noProfile)
    ∧ (startable → s.change = .clear → s.limits ≠ none →
        (∃ p : ProfileId, p.val = pw.toNat ∧ (s.working.profile p).valid = true) →
        (s.plantIn.dip = true ∨ x.input.breakout = true ∨ x.ctx.state = .tracking ∧ x.observed = none
          ∨ x.ctx.state = .passive ∧ x.input.fb.loss ≠ .valid) → refused .input)

/-- The removal of a hold reason at a context (R17). -/
def Obligations.HoldReasonRemoval : Prop :=
  ∀ (c : Context) (r : Reason),
    (c.state ≠ .holding → c.removeReason r = c)
    ∧ (c.state = .holding →
      (c.removeReason r).hold.has r = false
      ∧ (∀ r', r' ≠ r → (c.removeReason r).hold.has r' = c.hold.has r')
      ∧ ((∀ r', r' ≠ r → c.hold.has r' = false) → (c.removeReason r).state = .ramping)
      ∧ ((∃ r', r' ≠ r ∧ c.hold.has r' = true) → (c.removeReason r).state = .holding)
      ∧ c.removeReason r = { c with state := (c.removeReason r).state, hold := (c.removeReason r).hold })

/-- HOLD (R19), RELEASE (R20), and the arrival of a reason for addition at a context (R16). -/
def Obligations.HoldAndReleaseMoveCommand : Prop :=
  (∀ (s : State) (q : ReqHead) (w : Word) (k : StrandId), s.answers q → s.names w k →
    let x := s.strand k
    let left := { x.ctx.hold with command := false }
    (x.ctx.running = true →
      exec (.hold q w) s = .next ((s.withStrand k { x with
        ctx := { x.ctx with state := .holding, hold := { x.ctx.hold with command := true } } }).reply 4 q .ok []))
    ∧ (x.ctx.running = false → exec (.hold q w) s = .next (s.reply 4 q .state []))
    ∧ (x.ctx.state = .ramping → exec (.release q w) s = .next (s.reply 5 q .ok []))
    ∧ (x.ctx.state = .holding →
      exec (.release q w) s = .next ((s.withStrand k { x with
        ctx := { x.ctx with state := if left = {} then .ramping else .holding, hold := left } }).reply 5 q .ok []))
    ∧ (x.ctx.running = false → exec (.release q w) s = .next (s.reply 5 q .state [])))
  ∧ ∀ (c : Context) (r : Reason),
    (c.running = false → c.addReason r = c)
    ∧ (c.running = true →
      (c.addReason r).hold.has r = true
      ∧ (∀ r', r' ≠ r → (c.addReason r).hold.has r' = c.hold.has r')
      ∧ c.addReason r = { c with state := .holding, hold := (c.addReason r).hold })

/-- Only RELEASE takes COMMAND out of the hold set of a strand that goes on running (R19). -/
def Obligations.CommandHoldLasts : Prop :=
  ∀ (c : Instr) (s t : State) (k : StrandId), c.wf = true → exec c s = .next t →
    (∀ q w, c ≠ .release q w) → (∀ f, c ≠ .unknownRequest f) → (∀ f, c ≠ .ownFrameReturn f) →
    (∀ f, c ≠ .passThroughFrame f) →
    (s.ctx k).running = true → (s.ctx k).hold.command = true → (t.ctx k).running = true → (t.ctx k).hold.command = true

/-- CLEAR_TRIP (R26) and READ_CONTEXT (R27). -/
def Obligations.ClearTripAndReadContext : Prop :=
  ∀ (s : State) (q : ReqHead) (w : Word) (k : StrandId), s.answers q → s.names w k →
    let x := s.strand k
    (x.ctx.state = .tripped →
      exec (.clearTrip q w) s = .next ((s.withStrand k { x with
        ctx := { state := .tracking, releasePending := true }, blend := none, grant := {}, shadowGrant := {}
        observed := none, silence := 0, originating := false, mark := none }).reply 6 q .ok []))
    ∧ (x.ctx.state ≠ .tripped → exec (.clearTrip q w) s = .next (s.reply 6 q .state []))
    ∧ exec (.readContext q w) s = .next (s.reply 7 q .ok
      [word x.ctx.state.code, if x.ctx.shadow then 1 else 0,
        match x.ctx.profile with | some p => word p.val | none => 255,
        match x.ctx.segment with | some (.seg n) => word n.val | some .atEnd => 8 | none => 255,
        match x.ctx.state with
          | .ramping | .holding => word (x.ctx.acc / 64)
          | .handback | .tripped => word x.grant.speed
          | .passive | .tracking => 0,
        match x.ctx.target with | some v => word v | none => 0,
        word (bit x.ctx.hold.level + 2 * bit x.ctx.hold.sensor + 4 * bit x.ctx.hold.beat + 8 * bit x.ctx.hold.command
          + 16 * bit x.ctx.hold.change + 32 * bit x.ctx.hold.dip),
        if x.ctx.starved then 1 else 0,
        match x.ctx.cause with
          | none => 0 | some .breakout => 1 | some .level => 2 | some .follow => 3 | some .changeLate => 4
          | some .swapTimeout => 5 | some .dipLong => 6,
        if x.ctx.enrolled then 1 else 0,
        if x.ctx.shadow then word x.shadowGrant.demand else word x.grant.demand])

/-- Entry into TRIPPED, the would-be trip of a shadow strand, and the states a trip cause does not reach (R22 to R24). -/
def Obligations.TripEntryByState : Prop :=
  ∀ (s : State) (k : StrandId) (why : Cause),
    let x := s.strand k
    let code := match why with
      | .breakout => 1 | .level => 2 | .follow => 3 | .changeLate => 4 | .swapTimeout => 5 | .dipLong => 6
    let flows := s.lim.flow.trip
    (x.ctx.realRun = true ∨ x.ctx.state = .handback →
      s.tripOne why k =
        { s.withStrand k { x with
            ctx := { state := .tripped, cause := some why }, blend := none, mark := none
            grant := { speed := 0, table := none, flows, demand := flows.z1 + flows.z2 + flows.z3 + flows.z4 } } with
          counters := { s.counters with trips := s.counters.trips.set k (min (s.counters.trips[k] + 1) 65535) }
        }.raise .trip (some k) code)
    ∧ (x.ctx.shadowRun = true →
      s.tripOne why k = (s.withStrand k { x with
        ctx := { state := .tracking, releasePending := x.ctx.releasePending }, blend := none, grant := {}
        shadowGrant := {}, silence := 0, originating := false, mark := none }).raise .shadowTrip (some k) code)
    ∧ (x.ctx.state = .passive ∨ x.ctx.state = .tracking ∨ x.ctx.state = .tripped → s.tripOne why k = s)

/-! ## Cooling demand and admission (chapter 3) -/

/-- SET_ARBITER (R68, R67) and COOL_PIN (R51). -/
def Obligations.ArbiterSettings : Prop :=
  (∀ (s : State) (q : ReqHead) (mode : Word) (pr : Vector Word 8), s.answers q →
    (s.op ≠ .idle → exec (.setArbiter q mode pr) s = .next (s.reply 8 q .busy []))
    ∧ (s.op = .idle → (1 < mode.toNat ∨ ∃ k : StrandId, 3 < (pr[k]).toNat) →
        exec (.setArbiter q mode pr) s = .next (s.reply 8 q .range []))
    ∧ (s.op = .idle → mode.toNat ≤ 1 → (∀ k : StrandId, (pr[k]).toNat ≤ 3) →
        exec (.setArbiter q mode pr) s = .next (({ s with working := { s.working with config := { s.working.config with
          mode := if mode = 0 then .fixed else .rotating
          priorities := Vector.ofFn fun k => (pr[k]).toNat } } }).reply 8 q .ok [])))
  ∧ ∀ (s : State) (q : ReqHead) (w t : Word) (k : StrandId), s.answers q → s.names w k →
    (t = 255 → exec (.coolPin q w t) s = .next ((s.withStrand k { s.strand k with pin := none }).reply 9 q .ok []))
    ∧ (∀ n : TableId, t.toNat = n.val → (s.working.tables[n]).valid = true →
        exec (.coolPin q w t) s = .next ((s.withStrand k { s.strand k with pin := some n }).reply 9 q .ok []))
    ∧ (t ≠ 255 → (∀ n : TableId, t.toNat = n.val → (s.working.tables[n]).valid = false) →
        exec (.coolPin q w t) s = .next (s.reply 9 q .range []))

/-- For a fixed table no zone flow and no demand falls as the speed rises, and the demand lies in 0 to 16000 while the flows of
the limits table lie in the ranges of R162 (R53, R52; the statement RunsStayInUsedSegments says that they do). -/
def Obligations.DemandRisesWithSpeed : Prop :=
  ∀ (s : State) (t : TableId) (v v' : Nat), v ≤ v' →
    (s.zoneFlows v t).z1 ≤ (s.zoneFlows v' t).z1 ∧ (s.zoneFlows v t).z2 ≤ (s.zoneFlows v' t).z2
    ∧ (s.zoneFlows v t).z3 ≤ (s.zoneFlows v' t).z3 ∧ (s.zoneFlows v t).z4 ≤ (s.zoneFlows v' t).z4
    ∧ s.demand v t ≤ s.demand v' t
    ∧ s.demand v t = (s.zoneFlows v t).z1 + (s.zoneFlows v t).z2 + (s.zoneFlows v t).z3 + (s.zoneFlows v t).z4
    ∧ ((∀ l, s.working.limitsFlow = some l → l.sound) → s.demand v t ≤ 16000)

/-- A pass forms B from the header capacity, the reserve and the foreign draw, takes the requests of its running strands within
it, and its deficit count follows G above B (R54 to R56, R71). After the completion tests it closes with its alarms: in strand
number order STARVED, detail 1 for a shadow strand, of every strand whose starved count this pass brings to the limit (R70), then
DEFICIT, with G − B, when its own increment brings the deficit count to its limit (R71); nothing else changes.

The requests, on any state s in which the budget is formed: the arbiter order (R67); non-increasing requests as asked (R61); an
increasing request as asked exactly when G − g + d′ as it stands at its visit does not exceed B (R62); the fallback of a refused
one (R63); shadow requests within B − G − S (R64); the result at the strand (R65, R70); and the rotation pointer (R67). After them
G is at most the greater of B and the G they began with, and the shadow admissions do not bring G + S above B.

The orders of the blend steps and of the completion tests are free (log entry 5). Not the spec's words but the model's are: that all
results reach their strands before any completion and the closing alarms follow the alarms of completions (log entry 17), that they
are raised within the beat's own command (log entry 3), and that a limit raised within an episode is met a second time (log entries
29 and 30). -/
def Obligations.PassKeepsToTheBudget : Prop :=
  (∀ (s : State) (i : Nat),
    let t := s.admissionPass i
    let header := if s.plantIn.inp.loss = .valid then s.plantIn.capacity.getD 0 else s.plant.lossSubstitute
    let foreign := fun k : StrandId => if (s.ctx k).state = .tracking ∨ (s.ctx k).shadowRun = true then
      match (s.strand k).observed with | some o => o.flows.z1 + o.flows.z2 + o.flows.z3 + o.flows.z4 | none => 0 else 0
    t.budget = header - (match s.limits with | some l => l.speed.reserve | none => 0) - (strandIds.map foreign).sum
    ∧ (t.deficit = if t.budget < t.grantedTotal then min (s.deficit + 1) 65535 else 0)
    ∧ ∃ order, order.Perm strandIds ∧
      let dwelt := fun c : Context => if c.state = .ramping ∧ c.segment ≠ some .atEnd then
        { c with dwell := min (c.dwell + 1) 65535 } else c
      let u := (forStrands order State.blendStep { s with budget := t.budget }).mapStrands fun _ x => { x with ctx := dwelt x.ctx }
      let after := u.phases.state.takeResults u.phases.answers
      (t.pointer = match s.working.config.mode, u.phases.won with | .rotating, k :: _ => k + 1 | _, _ => s.pointer)
      ∧ (∀ k, ((s.ctx k).realRun = true → (t.strand k).grant = (after.strand k).grant)
        ∧ ((t.ctx k).shadowRun = true → (t.strand k).shadowGrant = (after.strand k).shadowGrant)
        ∧ ((t.ctx k).running = true → (t.ctx k).acc = (after.ctx k).acc ∧ (t.ctx k).starved = (after.ctx k).starved
            ∧ (t.ctx k).starvedCount = (after.ctx k).starvedCount))
      ∧ ∃ order', order'.Perm strandIds ∧
        let starving := strandIds.filter fun k =>
          (s.ctx k).running ∧ (after.ctx k).starved ∧ (s.ctx k).starvedCount + 1 = s.plant.starvationLimit
        let told := starving.foldl (fun v k => v.raise .starved (some k) (if (s.ctx k).shadow then 1 else 0))
          (forStrands order' State.completionTest after)
        let closed := if t.budget < t.grantedTotal ∧ s.deficit + 1 = s.plant.deficitLimit then
          told.raise .deficit none (min (t.grantedTotal - t.budget) 65535) else told
        t = { closed with pointer := t.pointer, deficit := t.deficit })
  ∧ (∀ s : State,
    (s.working.config.mode = .fixed → s.arbiterOrder.Perm strandIds ∧ s.arbiterOrder.Pairwise fun j k =>
      s.working.config.priorities[j] < s.working.config.priorities[k]
        ∨ s.working.config.priorities[j] = s.working.config.priorities[k] ∧ j < k)
    ∧ (s.working.config.mode = .rotating →
      s.arbiterOrder.map (fun k => k.val) = (List.range 8).map fun n => (s.pointer.val + n) % 8))
  ∧ (∀ s : State,
    let t := s.phases.state
    let asked := fun k => s.grantFor (s.candidate k / 64) (s.effectiveTable k)
    let real := fun k => (s.ctx k).realRun
    let rising := fun k => real k && decide ((s.strand k).grant.demand < (asked k).demand)
    ∃ (won : StrandId → Bool) (took : StrandId → Nat) (answer : StrandId → Verdict),
      let easy := fun k => real k && !rising k
      let total := fun seen : List StrandId => (strandIds.map fun j =>
        if easy j || won j && seen.contains j then (asked j).demand
        else if (s.ctx j).driving then (s.strand j).grant.demand else 0).sum
      let shadowed := fun seen : List StrandId => (seen.map fun j => if (s.ctx j).shadowRun then took j else 0).sum
      t = { s with strands := t.strands }
      ∧ s.phases.won.reverse = s.arbiterOrder.filter won
      ∧ (∀ k, rising k = false → won k = false)
      ∧ (∀ pre k post, s.arbiterOrder = pre ++ k :: post → rising k = true →
          (won k = true ↔ total pre - (s.strand k).grant.demand + (asked k).demand ≤ s.budget))
      ∧ (∀ k, easy k = true ∨ won k = true →
          t.strand k = { s.strand k with grant := asked k } ∧ answer k = .asAsked)
      ∧ (∀ k, rising k = true → won k = false →
          (∀ n, (s.strand k).grant.table = some n → (asked k).speed < (s.strand k).grant.speed →
            t.strand k = { s.strand k with grant := s.grantFor (asked k).speed n } ∧ answer k = .fallback)
          ∧ ((s.strand k).grant.table = none ∨ (s.strand k).grant.speed ≤ (asked k).speed →
            t.strand k = s.strand k ∧ answer k = .refused))
      ∧ (∀ pre k post, s.arbiterOrder = pre ++ k :: post → (s.ctx k).shadowRun = true →
          let room := fun d : Nat => t.grantedTotal + shadowed pre + d ≤ s.budget
          let g := (s.strand k).shadowGrant
          (room (asked k).demand →
            t.strand k = { s.strand k with shadowGrant := asked k } ∧ answer k = .asAsked ∧ took k = (asked k).demand)
          ∧ (∀ n, ¬ room (asked k).demand → g.table = some n → (asked k).speed < g.speed →
              room (s.grantFor (asked k).speed n).demand →
            t.strand k = { s.strand k with shadowGrant := s.grantFor (asked k).speed n } ∧ answer k = .fallback
              ∧ took k = (s.grantFor (asked k).speed n).demand)
          ∧ (¬ room (asked k).demand → (∀ n, g.table = some n → (asked k).speed < g.speed →
              ¬ room (s.grantFor (asked k).speed n).demand) →
            t.strand k = s.strand k ∧ answer k = .refused ∧ took k = 0))
      ∧ (∀ k, (s.ctx k).running = false → t.strand k = s.strand k)
      ∧ (shadowed strandIds = 0 ∨ t.grantedTotal + shadowed strandIds ≤ s.budget)
      ∧ ∀ k,
        let c := s.ctx k
        let resulting : Context := { c with
          acc := if answer k = .refused then c.acc else s.candidate k
          starved := decide (answer k ≠ .asAsked)
          starvedCount := if answer k = .asAsked then 0 else min (c.starvedCount + 1) 65535 }
        (t.takeResults s.phases.answers).strand k = { t.strand k with ctx := if c.running then resulting else c })
  ∧ ∀ s : State, s.strandsSound → s.flowsSound →
    s.phases.state.grantedTotal ≤ max s.budget s.grantedTotal
    ∧ (∀ k, s.phases.state.ctx k = s.ctx k)

/-- What the admission pass of a beat leaves a strand that runs its profile with: one ramp step towards T at most, with the grant
of the candidate as asked or of the fallback, or refused whole, the starved flag and count, the dwell, and the completion of its
segment (R38, R39, R42 to R45, R57, R65, R70). The end action HANDBACK takes a real run into HANDBACK with the speed and flows that
this admission left (R45, R133) and a shadow run into TRACKING (R146); the strand's other records stay. The pass's alarms are
those of the blend steps (R137), then PROFILE_END with the strand and its profile number for each strand that comes to END (R44) and
HANDBACK_DONE with detail 1 for each shadow run that ends (R146), none for a run that enters HANDBACK or another segment (R43,
R133), and last those of the close, which the statement PassKeepsToTheBudget gives. The orders of the blend steps and of the
completions are free (log entry 5); that the completions follow all results and precede the close is the model's reading (log
entry 17). -/
def Obligations.PassMovesRunningStrandsOneStep : Prop :=
  (∀ (s : State) (i : Nat) (k : StrandId) (p : ProfileId) (v r : Nat),
    let x := s.strand k
    let c := x.ctx
    c.running = true → c.profile = some p → c.target = some v → c.rate = some r →
    let goal := if s.change = .lowering ∧ c.enrolled = true then x.mark.getD c.acc
      else if c.segment = some .atEnd then c.acc else v * 64
    let candidate := if c.state = .holding then c.acc else if c.acc < goal then min (c.acc + r) goal else max (c.acc - r) goal
    let held := if c.shadow then x.shadowGrant else x.grant
    ∃ (a : Nat) (starved : Bool) (g : Grant),
      (starved = false ∧ a = candidate ∧ g = s.grantFor (candidate / 64) (s.effectiveTable k)
        ∨ starved = true ∧ a = candidate ∧ candidate / 64 < held.speed
          ∧ (∃ n, held.table = some n ∧ g = s.grantFor (candidate / 64) n)
        ∨ starved = true ∧ a = c.acc ∧ g = held) ∧
      let granted : Strand := if c.shadow then { x with shadowGrant := g } else { x with grant := g }
      let stepped : Context := { c with
        acc := a, starved, starvedCount := if starved then min (c.starvedCount + 1) 65535 else 0
        dwell := if c.state = .ramping ∧ c.segment ≠ some .atEnd then min (c.dwell + 1) 65535 else c.dwell }
      let after := (s.admissionPass i).strand k
      let completes := fun g : Segment =>
        c.state = .ramping ∧ c.enrolled = false ∧ a = goal ∧ g.minDwell ≤ min (c.dwell + 1) 65535
          ∧ (g.confirm = true → c.confirmSeen = true)
      ((∀ n, c.segment = some (.seg n) → ¬ completes (s.working.segment p n)) → after = { granted with ctx := stepped })
      ∧ ∀ n, c.segment = some (.seg n) → completes (s.working.segment p n) →
        (∀ n', (s.working.segment p n).next = .seg n' → after = { granted with ctx := { stepped with
            segment := some (.seg n'), dwell := 0, confirmSeen := false
            target := some (min (s.working.segment p n').target s.lim.speed.maxSpeed)
            rate := some (min (s.working.segment p n').rate s.lim.speed.maxRate) } })
        ∧ ((s.working.segment p n).next = .atEnd → (s.working.profile p).endAction = .stay →
            after = { granted with ctx := { stepped with segment := some .atEnd, dwell := 0, confirmSeen := false } })
        ∧ ((s.working.segment p n).next = .atEnd → (s.working.profile p).endAction = .handback →
            (c.shadow = false → after = { granted with
              ctx := { state := .handback }
              blend := some { startSpeed := a / 64, startFlows := g.flows, k := 0, n := s.plant.blendBeats, claim := false } })
            ∧ (c.shadow = true → after = { granted with
              ctx := { state := .tracking, releasePending := c.releasePending }, blend := none, grant := {}, shadowGrant := {}
              silence := 0, originating := false, mark := none })))
  ∧ ∀ (s : State) (i : Nat),
    let t := s.admissionPass i
    ∃ order order' : List StrandId, order.Perm strandIds ∧ order'.Perm strandIds ∧
      let completed := order'.foldl (fun u k =>
        match (s.ctx k).profile, (s.ctx k).segment with
        | some p, some (.seg _) =>
          if (s.ctx k).running ∧ (t.ctx k).running ∧ (t.ctx k).segment = some .atEnd then u.raise .profileEnd (some k) p.val
          else if (s.ctx k).shadowRun ∧ (t.ctx k).state = .tracking then u.raise .handbackDone (some k) 1
          else u
        | _, _ => u) (forStrands order State.blendStep { s with budget := t.budget })
      ∃ late : List (AlarmKind × Option StrandId × Nat), (∀ a ∈ late, a.1 = .starved ∨ a.1 = .deficit) ∧
        let told := late.foldl (fun u a => u.raise a.1 a.2.1 a.2.2) completed
        t.alarms = told.alarms ∧ t.counters = told.counters

/-- STARVED and DEFICIT: the count that reaches its limit, with its alarm (R70, R71). That the row alone is the count event is
the model's reading of file 95 (log entry 3). -/
def Obligations.StarvedAndDeficitAlarms : Prop :=
  (∀ (s : State) (k : StrandId),
    let x := s.strand k
    x.ctx.running = true → x.ctx.starvedCount + 1 = s.plant.starvationLimit →
      exec (.starved k) s = .next ((s.withStrand k { x with
        ctx := { x.ctx with starved := true, starvedCount := min (x.ctx.starvedCount + 1) 65535 } }).raise .starved (some k)
          (if x.ctx.shadow then 1 else 0)))
  ∧ ∀ s : State, s.budget < s.grantedTotal → s.deficit + 1 = s.plant.deficitLimit →
      exec .deficit s = .next ({ s with deficit := min (s.deficit + 1) 65535 }.raise .deficit none
        (min (s.grantedTotal - s.budget) 65535))

/-! ## Inputs (chapter 4) -/

/-- INPUT_SILENCE, LEVEL_FROZEN and INPUT_CLEAR (R77 to R80, R84, R86), and what the Input Monitor does at every beat: each input
ages by one, one that is silent is VALID no more and counts no clear run, and the LOSS alarms follow in the order of R77 (R76).
That the row alone is the count event is the model's reading of file 95 (log entry 3). The model's choice is what a row without its
sample or beat does beside the count (log entry 32): INPUT_CLEAR sets the beats since fresh of the named input alone to 0,
LEVEL_FROZEN leaves them, INPUT_SILENCE ages the named input alone, and the readings and the strand's other input stay. -/
def Obligations.InputsLoseAndClear : Prop :=
  (∀ s : State,
    let since := fun i : Input => min (i.since + 1) 65535
    let silent := fun i : Input => decide (s.plant.lossWindow ≤ since i)
    let lost := fun i : Input => silent i && decide (i.loss = .valid)
    let aged := fun i : Input => if silent i then
        ({ loss := if i.loss = .valid then .loss .silent else i.loss, since := since i, clearRun := 0 } : Input)
      else { i with since := since i }
    let next := fun x : Strand =>
      let c := if lost x.input.lvl then { x.ctx with levelExcess := 0 } else x.ctx
      { x with
        input := { x.input with
          lvl := aged x.input.lvl, fb := aged x.input.fb, varied := !silent x.input.lvl && x.input.varied }
        ctx := if lost x.input.lvl || lost x.input.fb then c.addReason .sensor else c }
    let alarms : List (Option StrandId × Nat) :=
      (strandIds.flatMap fun k =>
        (if lost (s.strand k).input.lvl then [(some k, 0)] else []) ++ if lost (s.strand k).input.fb then [(some k, 1)] else [])
      ++ if lost s.plantIn.inp then [(none, 2)] else []
    s.inputBeat = alarms.foldl (fun t a => t.raise .loss a.1 a.2)
      { s.mapStrands (fun _ => next) with plantIn := { s.plantIn with inp := aged s.plantIn.inp } })
  ∧ ∀ (s : State) (k : StrandId),
    let x := s.strand k
    let r := x.input
    let quiet : Context := { x.ctx with levelExcess := 0 }
    let since := fun i : Input => min (i.since + 1) 65535
    (r.lvl.loss = .valid → s.plant.lossWindow ≤ since r.lvl →
      exec (.inputSilence (.level k)) s = .next ((s.withStrand k { x with
        input := { r with lvl := { loss := .loss .silent, since := since r.lvl, clearRun := 0 }, varied := false }
        ctx := quiet.addReason .sensor }).raise .loss (some k) 0))
    ∧ (r.fb.loss = .valid → s.plant.lossWindow ≤ since r.fb →
      exec (.inputSilence (.feedback k)) s = .next ((s.withStrand k { x with
        input := { r with fb := { loss := .loss .silent, since := since r.fb, clearRun := 0 } }
        ctx := x.ctx.addReason .sensor }).raise .loss (some k) 1))
    ∧ (s.plantIn.inp.loss = .valid → s.plant.lossWindow ≤ since s.plantIn.inp →
      exec (.inputSilence .plant) s = .next ({ s with plantIn := { s.plantIn with
        inp := { loss := .loss .silent, since := since s.plantIn.inp, clearRun := 0 } } }.raise .loss none 2))
    ∧ (r.lvl.loss = .valid → s.plant.frozenCount ≤ min (r.identical + 1) 65535 →
      exec (.levelFrozen k) s = .next ((s.withStrand k { x with
        input := { r with lvl := { loss := .loss .frozen, since := r.lvl.since, clearRun := 0 }
                          identical := min (r.identical + 1) 65535, varied := false }
        ctx := quiet.addReason .sensor }).raise .loss (some k) 256))
    ∧ (∀ why, r.lvl.loss = .loss why → s.plant.clearCount ≤ min (r.lvl.clearRun + 1) 255 → r.varied = true →
      exec (.inputClear (.level k)) s = .next ((s.withStrand k { x with
        input := { r with lvl := { loss := .valid, since := 0, clearRun := 0 }, varied := false }
        ctx := if r.fb.loss = .valid then x.ctx.removeReason .sensor else x.ctx }).raise .lossClear (some k) 0))
    ∧ (∀ why, r.fb.loss = .loss why → s.plant.clearCount ≤ min (r.fb.clearRun + 1) 255 →
      exec (.inputClear (.feedback k)) s = .next ((s.withStrand k { x with
        input := { r with fb := { loss := .valid, since := 0, clearRun := 0 } }
        ctx := if r.lvl.loss = .valid then x.ctx.removeReason .sensor else x.ctx }).raise .lossClear (some k) 1))
    ∧ (∀ why, s.plantIn.inp.loss = .loss why → s.plant.clearCount ≤ min (s.plantIn.inp.clearRun + 1) 255 →
      exec (.inputClear .plant) s = .next ({ s with plantIn := { s.plantIn with
        inp := { loss := .valid, since := 0, clearRun := 0 } } }.raise .lossClear none 2))

/-- SENSOR_SAMPLE: sent on unchanged; a stale one and one of the start-up load change nothing more (R74, R75, R152, R158). A fresh
one writes the record of its strand, the frozen and the clearing rule with it (R78, R79), raises the alarms of its loss states
(R80), and trips on breakout a strand that runs or hands back; a shadow run ends by the would-be trip and a TRACKING strand raises
BREAKOUT_SEEN at the rising edge (R24, R89). It leaves every other strand as it was, but for a change that its trip ends (R102). -/
def Obligations.SensorSampleTaken : Prop :=
  ∀ (s : State) (f : Frame) (k : StrandId) (a b c d : Word),
    s.frameUse f = .slot (.sensor k) → f.payload = [a, b, c, d] →
    let x := s.strand k
    let r := x.input
    let read : SensorReading :=
      { level := max (-1000) (min 1000 a.toInt), feedback := min b.toNat 8000, breakout := c.getLsbD 0, confirm := c.getLsbD 1
        seq := d }
    let identical := if r.level = some read.level then min (r.identical + 1) 65535 else 0
    let frozen := r.lvl.loss = .valid ∧ s.plant.frozenCount ≤ identical
    let varied := r.varied || decide (0 < r.lvl.clearRun) && decide (r.level ≠ some read.level)
    let clears := fun i : Input => i.loss ≠ .valid ∧ s.plant.clearCount ≤ min 255 (i.clearRun + 1)
    let clear : Input := { loss := .valid, since := 0, clearRun := 0 }
    let counted := fun i : Input =>
      { i with since := 0, clearRun := if i.loss = .valid then i.clearRun else min 255 (i.clearRun + 1) }
    let after : StrandInput :=
      { level := some read.level, feedback := some read.feedback, breakout := read.breakout, seq := some d, identical
        lvl := if frozen then { loss := .loss .frozen, since := 0, clearRun := 0 }
          else if clears r.lvl ∧ varied = true then clear else counted r.lvl
        fb := if clears r.fb then clear else counted r.fb
        varied := if frozen ∨ clears r.lvl then false else if r.lvl.loss = .valid then r.varied else varied }
    let taken := fun c : Context => State.noteLoss k r after ((s.send f).withStrand k { x with input := after, ctx := c })
    let quiet := if frozen then { x.ctx with levelExcess := 0 } else x.ctx
    (s.loading = true ∨ r.seq = some d → exec (.sensorSample f) s = .next (s.send f))
    ∧ (s.loading = false → r.seq ≠ some d →
      (∃ t, exec (.sensorSample f) s = .next t
        ∧ t = { s.send f with strands := t.strands, change := t.change, alarms := t.alarms, counters := t.counters }
        ∧ (∀ j, j ≠ k → t.strand j = s.strand j)
        ∧ (t.strand k).input = after
        ∧ (x.ctx.realRun = true ∨ x.ctx.state = .handback → read.breakout = true →
            (t.ctx k) = { state := .tripped, cause := some .breakout } ∧ (t.strand k).blend = none
            ∧ (t.strand k).mark = none ∧ (t.strand k).grant = s.tripGrant))
      ∧ r.take s.plant read = after
      ∧ (x.ctx.running = true ∨ x.ctx.state = .handback → read.breakout = true →
          exec (.sensorSample f) s = .next ((taken x.ctx).tripOne .breakout k).settled)
      ∧ (x.ctx.state = .handback → read.breakout = false → exec (.sensorSample f) s = .next (taken quiet))
      ∧ (x.ctx.state = .passive ∨ x.ctx.state = .tripped → exec (.sensorSample f) s = .next (taken quiet))
      ∧ (x.ctx.state = .tracking → exec (.sensorSample f) s = .next
          (if read.breakout = true ∧ r.breakout = false then (taken quiet).raise .breakoutSeen (some k) 0 else taken quiet)))

/-- A fresh sample without breakout at a strand that runs its profile, by the record it leaves (the statement SensorSampleTaken):
SENSOR added when the level input is lost and removed when both inputs have become VALID (R84), the confirm latch (R41), and
while the level input is VALID the level gate: LEVEL above the hold band, no LEVEL at or below the release band, the level excess
count, and the trip (R85 to R87, R102). -/
def Obligations.LevelGateHoldsAndReleases : Prop :=
  ∀ (s : State) (f : Frame) (k : StrandId) (p : ProfileId) (a b c d : Word),
    s.frameUse f = .slot (.sensor k) → f.payload = [a, b, c, d] → s.loading = false → (s.strand k).input.seq ≠ some d →
    (s.ctx k).running = true → (s.ctx k).profile = some p → c.getLsbD 0 = false →
    let x := s.strand k
    let pr := s.working.profile p
    let level : Int := max (-1000) (min 1000 a.toInt)
    let after := x.input.take s.plant
      { level, feedback := min b.toNat 8000, breakout := false, confirm := c.getLsbD 1, seq := d }
    let sensed := if x.input.lvl.loss = .valid ∧ after.lvl.loss ≠ .valid then
        { x.ctx with levelExcess := 0 }.addReason .sensor
      else if (x.input.lvl.loss ≠ .valid ∨ x.input.fb.loss ≠ .valid) ∧ after.lvl.loss = .valid ∧ after.fb.loss = .valid then
        x.ctx.removeReason .sensor
      else x.ctx
    let wanted := match x.ctx.segment with | some (.seg n) => (s.working.segment p n).confirm | _ => false
    let latched := { sensed with confirmSeen := sensed.confirmSeen || c.getLsbD 1 && wanted }
    let gated := if pr.holdBand < level.natAbs then latched.addReason .level
      else if level.natAbs ≤ pr.releaseBand then latched.removeReason .level else latched
    let excess := if pr.tripBand < level.natAbs then min 255 (latched.levelExcess + 1) else 0
    let taken := fun c : Context =>
      State.noteLoss k x.input after ((s.send f).withStrand k { x with input := after, ctx := c })
    let held := taken { gated with levelExcess := excess }
    (after.lvl.loss ≠ .valid → exec (.sensorSample f) s = .next (taken latched))
    ∧ (after.lvl.loss = .valid → (level.natAbs ≤ pr.tripBand ∨ excess < pr.tripCount) →
        exec (.sensorSample f) s = .next held)
    ∧ (after.lvl.loss = .valid → pr.tripBand < level.natAbs → pr.tripCount ≤ excess →
        exec (.sensorSample f) s = .next (held.tripOne .level k).settled)

/-- LEVEL_TRIP and FOLLOW_TRIP: the trip of the strand, after which an emptied enrolled set returns the coordinator to CLEAR
(R86, R102, R92); and the follow checks of every beat: the count of each real run rises or returns to 0, and those that reach the
limit trip (R88). That the row alone is the count event is the model's reading of file 95 (log entry 3), and that
LEVEL_TRIP, which carries no sample, leaves the input record is its choice (log entry 32); the order of the trips of one beat is free
(log entry 5). -/
def Obligations.LevelAndFollowTrips : Prop :=
  (∀ (s : State) (k : StrandId),
    let x := s.strand k
    (∀ p, x.ctx.running = true → x.ctx.profile = some p → x.input.lvl.loss = .valid →
      (s.working.profile p).tripCount ≤ min 255 (x.ctx.levelExcess + 1) →
      exec (.levelTrip k) s = .next (s.tripOne .level k).settled)
    ∧ (∀ v : Nat, x.ctx.realRun = true → x.input.fb.loss = .valid → x.input.feedback = some v → x.ctx.hold.dip = false →
      (v + s.lim.speed.followBand < x.ctx.acc / 64 ∨ x.ctx.acc / 64 + s.lim.speed.followBand < v) →
      s.lim.speed.followCount ≤ min (x.ctx.followCount + 1) 65535 →
      exec (.followTrip k) s = .next (s.tripOne .follow k).settled))
  ∧ ∀ (s : State) (i : Nat) (acc : StrandId → Nat),
    let gap := fun k : StrandId =>
      let x := s.strand k
      let v := x.input.feedback.getD 0
      x.ctx.realRun = true ∧ x.input.fb.loss = .valid ∧ x.ctx.hold.dip = false
        ∧ (v + s.lim.speed.followBand < acc k / 64 ∨ acc k / 64 + s.lim.speed.followBand < v)
    let count := fun k : StrandId => if gap k then min ((s.ctx k).followCount + 1) 65535 else 0
    let counted := s.mapStrands fun k x =>
      if x.ctx.realRun then { x with ctx := { x.ctx with followCount := count k } } else x
    ∃ order, order.Perm (strandIds.filter fun k => gap k ∧ s.lim.speed.followCount ≤ count k)
      ∧ s.followBeat i acc = (forStrands order (State.tripOne .follow) counted).settled

/-- PLANT_SAMPLE: sent on unchanged; a stale one and one of the start-up load change nothing more (R74, R75, R152, R158). A fresh
one writes the plant record, the clearing rule with it (R79 to R81). One that leaves the plant input VALID reaches the dip state
first: dip begin and dip end, where a strand under the change override takes the override again (R103, R106, R107, R111, R112);
and then the change in AT_LOW and SWAP (R82, R98, R100). That the dip monitor is reached first is the model's reading (log entry
18). -/
def Obligations.PlantSampleTaken : Prop :=
  ∀ (s : State) (f : Frame) (a b c d : Word), s.frameUse f = .slot .plant → f.payload = [a, b, c, d] →
    let r := s.plantIn
    let clears := r.inp.loss ≠ .valid ∧ s.plant.clearCount ≤ min 255 (r.inp.clearRun + 1)
    let inp : Input := if clears then { loss := .valid, since := 0, clearRun := 0 } else
      { r.inp with since := 0, clearRun := if r.inp.loss = .valid then r.inp.clearRun else min 255 (r.inp.clearRun + 1) }
    let flag := c.getLsbD 0
    let now : PlantInput :=
      { weight := some (min a.toNat 1000), capacity := some b.toNat, seq := some d, inp
        dip := if inp.loss = .valid then flag else r.dip }
    let written := { s.send f with plantIn := now }
    let cleared := match r.inp.loss with
      | .loss _ => if inp.loss = .valid then written.raise .lossClear none 2 else written
      | _ => written
    let reseed := fun x : Strand =>
      let y := s.reseeded (if x.input.fb.loss = LossState.valid then x.input.feedback.getD 0 else 0) x.ctx
      let v := min s.plant.changeSpeed s.lim.speed.maxSpeed
      if s.change = .lowering ∧ x.ctx.enrolled = true then
        { x with
          mark := some (min y.acc (v * 64))
          ctx := { y with
            target := some (if v * 64 < y.acc then v else y.acc / 64), rate := some (min s.plant.changeRate s.lim.speed.maxRate) } }
      else { x with ctx := y }
    let dipped := if r.dip = false ∧ flag = true then
        { cleared.mapStrands (fun _ x => if x.ctx.running then
            { x with ctx := { x.ctx.addReason .dip with reseed := true } } else x) with
          dip := .dipped, dipCount := 0 }.raise .dipBegin none (strandIds.filter fun k => (s.ctx k).running).length
      else if r.dip = true ∧ flag = false then
        { cleared.mapStrands (fun _ x => if x.ctx.reseed then reseed x else x) with dip := .normal }.raise .dipEnd none
          (strandIds.filter fun k => (s.ctx k).reseed).length
      else cleared
    let weight := min a.toNat 1000
    let weighed := match s.change with
      | .atLow => if weight < s.plant.swapThreshold then
          { dipped with swapCount := 0, change := .swap }.raise .change none 3 else dipped
      | .swap => if s.plant.releaseThreshold ≤ weight then
          { dipped.mapStrands (fun _ x => if x.mark.isSome then
              { x with ctx := { x.ctx.removeReason .change with enrolled := false }, mark := none } else x) with
            change := .clear }.raise .change none 0 else dipped
      | .clear | .lowering => dipped
    (s.loading = true ∨ r.seq = some d → exec (.plantSample f) s = .next (s.send f))
    ∧ (s.loading = false → r.seq ≠ some d → inp.loss ≠ .valid → exec (.plantSample f) s = .next written)
    ∧ (s.loading = false → r.seq ≠ some d → inp.loss = .valid →
        (r.dip = true → flag = false → ∀ k, (s.ctx k).reseed = true → (s.ctx k).profile.isSome = true) →
        exec (.plantSample f) s = .next weighed)

/-! ## Tundish change and windows (chapters 5 and 6) -/

/-- CHANGE_BEGIN (R94, R95, R92). -/
def Obligations.ChangeBeginEnrollsTheRunners : Prop :=
  ∀ (s : State) (q : ReqHead), s.answers q →
    let go := exec (.changeBegin q) s
    (s.change ≠ .clear → go = .next (s.reply 10 q .state []))
    ∧ (s.change = .clear → s.limits = none → go = .next (s.reply 10 q .noLimits []))
    ∧ (s.change = .clear → s.limits ≠ none → (∀ k, (s.ctx k).realRun = false) → go = .next (s.reply 10 q .state []))
    ∧ (∀ lim, s.change = .clear → s.limits = some lim → (∃ k, (s.ctx k).realRun = true) →
        let c := min s.plant.changeSpeed lim.speed.maxSpeed
        go = .next (({ s.mapStrands (fun _ x => if x.ctx.realRun then
              { x with
                mark := some (min x.ctx.acc (c * 64))
                ctx := { x.ctx with
                  enrolled := true, target := some (if c * 64 < x.ctx.acc then c else x.ctx.acc / 64)
                  rate := some (min s.plant.changeRate lim.speed.maxRate) } }
              else x) with change := .lowering, loweringCount := 0 }.raise .change none 1).reply 10 q .ok []))

/-- CHANGE_CANCEL and SWAP_CONFIRM (R100, R101, R37). -/
def Obligations.ChangeReleases : Prop :=
  ∀ (s : State) (q : ReqHead), s.answers q →
    let released := fun (c : Context) => { c.removeReason .change with enrolled := false }
    let freed := { s.mapStrands (fun _ x => if x.mark.isSome then { x with ctx := released x.ctx, mark := none } else x) with
      change := .clear }.raise .change none 0
    let reloaded := { s.mapStrands (fun _ x => if x.mark.isSome then
      { x with ctx := released (s.reloaded x.ctx), mark := none } else x) with change := .clear }.raise .change none 0
    (s.change = .lowering → exec (.changeCancel q) s = .next (reloaded.reply 11 q .ok []))
    ∧ (s.change = .atLow → exec (.changeCancel q) s = .next (freed.reply 11 q .ok []))
    ∧ (s.change = .clear ∨ s.change = .swap → exec (.changeCancel q) s = .next (s.reply 11 q .state []))
    ∧ (s.change = .swap → exec (.swapConfirm q) s = .next (freed.reply 12 q .ok []))
    ∧ (s.change ≠ .swap → exec (.swapConfirm q) s = .next (s.reply 12 q .state []))

/-- LOWERING_WINDOW_EXPIRY, SWAP_WINDOW_EXPIRY and DIP_WINDOW_EXPIRY: the strands that trip, in strand number order, and where
the coordinator goes (R96, R99, R102, R108). Each is what the beat of the coordinator or of the dip monitor does then; at another
beat every strand at low moves the coordinator to AT_LOW, where the override ends (R96, R37), or the beat only counts. That the
row alone is the count event is the model's reading of file 95 (log entry 3). -/
def Obligations.WindowsExpire : Prop :=
  ∀ s : State,
    let enrolled := fun k => (s.strand k).mark.isSome
    let late := strandIds.filter fun k => (s.strand k).mark.any fun m => decide (m < (s.ctx k).acc)
    let emptied := fun t : State => ∀ k, (t.strand k).mark = none
    let cleared := fun t : State => { t with change := .clear }.raise .change none 0
    (s.change = .lowering → late = [] → s.changeBeat =
      { s.mapStrands (fun _ x => if x.mark.isSome then
          { x with ctx := s.reloaded (x.ctx.addReason .change) } else x) with change := .atLow }.raise .change none 2)
    ∧ (s.change = .lowering → late ≠ [] → min (s.loweringCount + 1) 65535 < s.plant.loweringWindow →
        s.changeBeat = { s with loweringCount := min (s.loweringCount + 1) 65535 })
    ∧ (s.change = .swap → min (s.swapCount + 1) 65535 < s.plant.swapWindow →
        s.changeBeat = { s with swapCount := min (s.swapCount + 1) 65535 })
    ∧ (s.change = .clear ∨ s.change = .atLow → s.changeBeat = s)
    ∧ (s.dip = .normal → s.dipBeat = s)
    ∧ (s.dip = .dipped → min (s.dipCount + 1) 65535 < s.plant.dipWindow →
        s.dipBeat = { s with dipCount := min (s.dipCount + 1) 65535 })
    ∧ (s.change = .lowering → late ≠ [] → s.plant.loweringWindow ≤ min (s.loweringCount + 1) 65535 →
        exec .loweringWindowExpiry s = .next s.changeBeat)
    ∧ (s.change = .swap → s.plant.swapWindow ≤ min (s.swapCount + 1) 65535 → exec .swapWindowExpiry s = .next s.changeBeat)
    ∧ (s.dip = .dipped → s.plant.dipWindow ≤ min (s.dipCount + 1) 65535 → exec .dipWindowExpiry s = .next s.dipBeat)
    ∧ (s.change = .lowering → late ≠ [] → s.plant.loweringWindow ≤ min (s.loweringCount + 1) 65535 →
      let t := forStrands late (State.tripOne .changeLate) { s with loweringCount := min (s.loweringCount + 1) 65535 }
      exec .loweringWindowExpiry s = .next
        (if emptied t then cleared t
        else { t.mapStrands (fun _ x => if x.mark.isSome then
            { x with ctx := s.reloaded (x.ctx.addReason .change) } else x) with change := .atLow }.raise .change none 2))
    ∧ (s.change = .swap → s.plant.swapWindow ≤ min (s.swapCount + 1) 65535 →
      exec .swapWindowExpiry s = .next (cleared (forStrands (strandIds.filter enrolled) (State.tripOne .swapTimeout)
        { s with swapCount := min (s.swapCount + 1) 65535 })))
    ∧ (s.dip = .dipped → s.plant.dipWindow ≤ min (s.dipCount + 1) 65535 →
      let t := forStrands (strandIds.filter fun k => (s.ctx k).hold.dip) (State.tripOne .dipLong)
        { s with dipCount := min (s.dipCount + 1) 65535 }
      exec .dipWindowExpiry s = .next (if s.change ≠ .clear ∧ emptied t then cleared t else t))

/-! ## Beat sources (chapter 7) -/

/-- SOURCE_SELECT and SOURCE_FREEZE (R124, R127). -/
def Obligations.SourceSelectAndFreeze : Prop :=
  ∀ (s : State) (q : ReqHead), s.answers q →
    exec (.sourceFreeze q) s = .next ({ s with freeze := true }.reply 15 q .ok [])
    ∧ ∀ n keep : Word,
      let go := exec (.sourceSelect q n keep) s
      (s.freeze = true → go = .next (s.reply 13 q .frozen []))
      ∧ (s.freeze = false → (2 < n.toNat ∨ 1 < keep.toNat) → go = .next (s.reply 13 q .range []))
      ∧ (s.freeze = false → n.toNat ≤ 2 → keep = 1 → s.op ≠ .idle → go = .next (s.reply 13 q .busy []))
      ∧ ∀ src : Source, n.toNat = src.code → s.freeze = false →
        (keep = 0 → src = s.current → go = .next (s.reply 13 q .ok [1]))
        ∧ (keep = 0 → src ≠ s.current → go = .next ({ s with switchTo := some src }.reply 13 q .ok [0]))
        ∧ (keep = 1 → s.op = .idle → src = s.current →
            go = .next ((s.setConfig fun c => { c with startSource := src }).reply 13 q .ok [1]))
        ∧ (keep = 1 → s.op = .idle → src ≠ s.current →
            go = .next ({ s.setConfig fun c => { c with startSource := src } with switchTo := some src }.reply 13 q .ok [0]))

/-- SOURCE_CANCEL (R126). -/
def Obligations.SourceCancelClearsTheTarget : Prop :=
  ∀ (s : State) (q : ReqHead), s.answers q →
    (∀ t key ps, decodeRequest q.origin t key (14 :: q.tag :: ps) = .command (.sourceCancel q) ↔ ps = [])
    ∧ (∀ src, s.switchTo = some src → exec (.sourceCancel q) s = .next ({ s with switchTo := none }.reply 14 q .ok []))
    ∧ (s.switchTo = none → exec (.sourceCancel q) s = .next (s.reply 14 q .state []))

/-- SET_BEAT_PERIOD taken at time t (R129). The unit of time and the reading `now` are the model's choice (log entry 7). -/
def Obligations.SetBeatPeriodRestartsTheSources : Prop :=
  ∀ (s : State) (q : ReqHead) (p : Word) (t : Nat), s.answers q →
    let go := exec (.setBeatPeriod q p t) s
    let fresh : Monitor := { locked := false, run := 0, ref := t, hasLast := false, silent := false }
    (s.op ≠ .idle → go = .next (s.reply 16 q .busy []))
    ∧ (s.op = .idle → ((∃ k, (s.ctx k).driving = true) ∨ s.switchTo ≠ none) → go = .next (s.reply 16 q .state []))
    ∧ (s.op = .idle → (∀ k, (s.ctx k).driving = false) → s.switchTo = none → (p.toNat < 4 ∨ 40 < p.toNat) →
        go = .next (s.reply 16 q .range []))
    ∧ (s.op = .idle → (∀ k, (s.ctx k).driving = false) → s.switchTo = none → 4 ≤ p.toNat → p.toNat ≤ 40 →
        go = .next ({ s.setConfig fun c => { c with period := p.toNat } with
          now := max s.now t, localNext := some (t + 1000 * p.toNat), lineMon := fresh, pulseMon := fresh }.reply 16 q .ok []))

/-- FAIL_CLEAR (R123, R122). -/
def Obligations.FailClearEndsTheBeatHolds : Prop :=
  ∀ (s : State) (q : ReqHead), s.answers q →
    let go := exec (.failClear q) s
    (∀ t key ps, decodeRequest q.origin t key (17 :: q.tag :: ps) = .command (.failClear q) ↔ ps = [])
    ∧ (s.current = .localGen → s.fail = true →
      go = .next (({ s.mapStrands (fun _ x => { x with ctx := x.ctx.removeReason .beat }) with fail := false }).reply 17 q .ok []))
    ∧ (s.current = .localGen → s.fail = false → go = .next (s.reply 17 q .ok []))
    ∧ (s.current ≠ .localGen → go = .next (s.reply 17 q .state []))

/-- How a beat of LINE or PULSE at time t changes its lock monitor (R117, R118). P is in ms; that times are in microseconds, and
that the spacing of a beat earlier than the last one is 0, are the model's choice (log entry 7). -/
def Obligations.LockMonitorTakesABeat : Prop :=
  ∀ (m : Monitor) (period t : Nat),
    let steady := 7 * 1000 * period ≤ 8 * (t - m.ref) ∧ 8 * (t - m.ref) ≤ 9 * 1000 * period
    let m' := m.beat period t
    m'.ref = t ∧ m'.hasLast = true ∧ m'.silent = false
    ∧ (m.hasLast = false → m'.run = 0 ∧ m'.locked = false)
    ∧ (m.hasLast = true → ¬ steady → m'.run = 0 ∧ m'.locked = false)
    ∧ (m.hasLast = true → steady → m.locked = true → m'.run = 8 ∧ m'.locked = true)
    ∧ (m.hasLast = true → steady → m.locked = false → m.run < 7 → m'.run = m.run + 1 ∧ m'.locked = false)
    ∧ (m.hasLast = true → steady → m.locked = false → m.run = 7 → m'.run = 8 ∧ m'.locked = true)

/-- BEAT_FRAME and PULSE_EDGE at time t: the frame goes on to DOWN, the beat reaches the monitor of its source, and a beat of
the current source is delivered to every block in some order (R116, R117, R119, R120, R148). A beat of a source that is neither
the current one nor a pending target whose monitor was and stays LOCKED does nothing more, the beat that locks the monitor of the
pending target among them (R125). The reading `now`, the index of the free order and the count before the blocks take the beat
are the model's (log entries 4, 6, 7 and 8), and so is that the frame leaves before the frames originated at the beat (log entry
25). -/
def Obligations.ExternalBeatsReachTheirMonitor : Prop :=
  ∀ (s : State) (f : Frame) (t : Nat),
    let line := s.lineMon.beat s.period t
    let pulse := s.pulseMon.beat s.period t
    let irregular := fun m : Monitor => m.hasLast && !m.inTolerance s.period t
    let counted := fun (b : Bool) (c : Counters) =>
      if b then { c with irregularBeats := min (c.irregularBeats + 1) 65535 } else c
    (∀ i order, s.blocksBeat i order = order.foldl (fun u block =>
      match block with
      | .sequencer => u.followBeat i fun k => (s.ctx k).acc
      | .arbiter => u.admissionPass i
      | .inputMonitor => u.inputBeat
      | .changeCoordinator => u.changeBeat
      | .dipMonitor => u.dipBeat
      | .lineInterface => u.lineBeat) s)
    ∧ (s.frameUse f = .beat → s.loading = true → exec (.beatFrame f t) s = .next (s.send f))
    ∧ (s.loading = true → exec (.pulseEdge t) s = .next s)
    ∧ (s.frameUse f = .beat → s.loading = false → s.current ≠ .line →
        (s.switchTo ≠ some .line ∨ s.lineMon.locked = false ∨ line.locked = false) →
        exec (.beatFrame f t) s = .next { s.send f with lineMon := line, now := max s.now t })
    ∧ (s.loading = false → s.current ≠ .pulse →
        (s.switchTo ≠ some .pulse ∨ s.pulseMon.locked = false ∨ pulse.locked = false) →
        exec (.pulseEdge t) s = .next { s with pulseMon := pulse, now := max s.now t })
    ∧ (s.frameUse f = .beat → s.loading = false → s.current = .line → ∃ order, order.Perm beatBlocks ∧
        exec (.beatFrame f t) s = .next
          ({ s.send f with
              lineMon := line, now := max s.now t, counters := counted (irregular s.lineMon) s.counters
              beats := s.beats + 1, fresh := s.fresh + 1 }.blocksBeat s.fresh order))
    ∧ (s.loading = false → s.current = .pulse → ∃ order, order.Perm beatBlocks ∧
        exec (.pulseEdge t) s = .next
          ({ s with
              pulseMon := pulse, now := max s.now t, counters := counted (irregular s.pulseMon) s.counters
              beats := s.beats + 1, fresh := s.fresh + 1 }.blocksBeat s.fresh order))

/-- LOCAL_EXPIRY and SWITCH_COMPLETE: the expiry keeps its phase and is a beat while LOCAL is current; a beat of a LOCKED
pending source that stays LOCKED makes it current, is delivered, ends the pending target, clears the fail flag and raises
SWITCH_DONE, and so it does by its own row BEAT_FRAME, PULSE_EDGE or LOCAL_EXPIRY (R116, R119, R122, R125). SWITCH_COMPLETE as a
row of its own is the model's reading of file 95 (log entry 3), the count before the blocks take the beat its choice (log entry
8), the order within the completing beat its reading (log entry 9); `now` and the free order are its choice (log entries 4, 6
and 7), and the frame leaves first (log entry 25). -/
def Obligations.LocalBeatsAndSwitches : Prop :=
  ∀ (s : State) (f : Frame) (n t : Nat),
    let ticked := { s with localNext := some (n + 1000 * s.period), now := max s.now n }
    let beaten := fun (u : State) order => { u with beats := s.beats + 1, fresh := s.fresh + 1 }.blocksBeat s.fresh order
    let unfailed := fun u : State => if u.fail then
      { u.mapStrands (fun _ x => { x with ctx := x.ctx.removeReason .beat }) with fail := false } else u
    let lineDone := fun (u : State) order =>
      (unfailed { beaten { u with
          lineMon := s.lineMon.beat s.period t, now := max s.now t, current := .line } order with
        switchTo := none }).raise .switchDone none 0
    let pulseDone := fun order =>
      (unfailed { beaten { s with
          pulseMon := s.pulseMon.beat s.period t, now := max s.now t, current := .pulse } order with
        switchTo := none }).raise .switchDone none 1
    let localDone := fun order =>
      { beaten { ticked with current := .localGen } order with switchTo := none }.raise .switchDone none 2
    (s.localNext = some n → s.current ≠ .localGen → s.switchTo ≠ some .localGen →
      exec .localExpiry s = .next ticked)
    ∧ (s.localNext = some n → s.current = .localGen → ∃ order, order.Perm beatBlocks ∧
      exec .localExpiry s = .next (beaten ticked order))
    ∧ (s.localNext = some n → s.current ≠ .localGen → s.switchTo = some .localGen → ∃ order, order.Perm beatBlocks ∧
      exec (.switchComplete t) s = .next (localDone order) ∧ exec .localExpiry s = .next (localDone order))
    ∧ (s.loading = false → s.current ≠ .line → s.switchTo = some .line → s.lineMon.locked = true →
        (s.lineMon.beat s.period t).locked = true → ∃ order, order.Perm beatBlocks ∧
      exec (.switchComplete t) s = .next (lineDone s order)
      ∧ (s.frameUse f = .beat → exec (.beatFrame f t) s = .next (lineDone (s.send f) order)))
    ∧ (s.loading = false → s.current ≠ .pulse → s.switchTo = some .pulse → s.pulseMon.locked = true →
        (s.pulseMon.beat s.period t).locked = true → ∃ order, order.Perm beatBlocks ∧
      exec (.switchComplete t) s = .next (pulseDone order) ∧ exec (.pulseEdge t) s = .next (pulseDone order))

/-- SOURCE_SILENT: the monitor at silence, and the failover of a current source (R118, R121, R122). The reading `now` is the
model's choice (log entry 7). -/
def Obligations.SilentSourceFailsOver : Prop :=
  ∀ s : State, s.loading = false →
    let quiet := fun m : Monitor => { m with locked := false, run := 0, hasLast := false, silent := true }
    let lineLost := { s with lineMon := quiet s.lineMon, now := max s.now (s.lineMon.ref + 3 * 1000 * s.period) }
    let pulseLost := { s with pulseMon := quiet s.pulseMon, now := max s.now (s.pulseMon.ref + 3 * 1000 * s.period) }
    let failed := fun (t : State) (code : Nat) =>
      { t.mapStrands (fun _ x => { x with ctx := x.ctx.addReason .beat }) with
        current := .localGen, fail := true, switchTo := none }.raise .beatFail none code
    (s.lineMon.silent = false → s.current ≠ .line → exec (.sourceSilent .line) s = .next lineLost)
    ∧ (s.lineMon.silent = false → s.current = .line → exec (.sourceSilent .line) s = .next (failed lineLost 0))
    ∧ (s.pulseMon.silent = false → s.current ≠ .pulse → exec (.sourceSilent .pulse) s = .next pulseLost)
    ∧ (s.pulseMon.silent = false → s.current = .pulse → exec (.sourceSilent .pulse) s = .next (failed pulseLost 1))

/-! ## Handback and claims (chapter 8) -/

/-- HANDBACK (R133, R134, R146), and BLEND_COMPLETE: the blend step that brings k to N leaves the strand TRACKING, with a
latched claim now due (R135, R137, R141). That the row alone is that step is the model's reading of file 95 (log entry 3). And
the blend step at every pass: speed and flows a fraction k ÷ N of the way to the master's values, within the limits, the division
truncating toward zero, the demand their sum (R135, R136). -/
def Obligations.HandbackAndBlendEnd : Prop :=
  (∀ (s : State) (q : ReqHead) (w : Word) (k : StrandId), s.answers q → s.names w k →
    let x := s.strand k
    let go := exec (.handback q w) s
    (x.ctx.running = false → go = .next (s.reply 18 q .state []))
    ∧ (x.ctx.running = true → x.ctx.enrolled = true → go = .next (s.reply 18 q .state []))
    ∧ (x.ctx.realRun = true → x.ctx.enrolled = false →
      go = .next ((s.withStrand k { x with
        ctx := { state := .handback }
        blend := some { startSpeed := x.ctx.acc / 64, startFlows := x.grant.flows, k := 0, n := s.plant.blendBeats
                        claim := false } }).reply 18 q .ok []))
    ∧ (x.ctx.shadowRun = true → x.ctx.enrolled = false →
      go = .next (((s.withStrand k { x with
        ctx := { state := .tracking, releasePending := x.ctx.releasePending }, blend := none, grant := {}
        shadowGrant := {}, silence := 0, originating := false, mark := none }).raise .handbackDone (some k) 1).reply 18 q
          .ok [])))
  ∧ (∀ (s : State) (k : StrandId) (b : Handback),
    let x := s.strand k
    x.ctx.state = .handback → x.blend = some b → b.k + 1 = b.n →
      let done := { x with
        ctx := { state := .tracking, releasePending := x.ctx.releasePending }, blend := none, grant := {}
        shadowGrant := {}, silence := 0, originating := false, mark := none
        claimDue := x.claimDue || b.claim }
      let t := (s.withStrand k done).raise .handbackDone (some k) 0
      exec (.blendComplete k) s = .next (if b.claim then t.raise .claim (some k) 1 else t)
      ∧ ∀ i, (s.admissionPass i).strand k = done)
  ∧ (∀ (s : State) (i : Nat) (k : StrandId) (b : Handback),
    let x := s.strand k
    x.ctx.state = .handback → x.blend = some b → b.k + 1 ≠ b.n →
      let limited := fun v lo hi : Nat => min (max v lo) hi
      let lo := s.lim.flow.floor
      let hi := s.lim.flow.ceiling
      let goal : Nat × Zones Nat := match x.observed with
        | some o => (min o.speed s.lim.speed.maxSpeed,
            ⟨limited o.flows.z1 lo.z1 hi.z1, limited o.flows.z2 lo.z2 hi.z2, limited o.flows.z3 lo.z3 hi.z3,
              limited o.flows.z4 lo.z4 hi.z4⟩)
        | none => (b.startSpeed, b.startFlows)
      let value := fun start target : Nat =>
        ((start : Int) + (((target : Int) - (start : Int)) * ((b.k + 1 : Nat) : Int)).tdiv (b.n : Int)).toNat
      let flows : Zones Nat := ⟨value b.startFlows.z1 goal.2.z1, value b.startFlows.z2 goal.2.z2,
        value b.startFlows.z3 goal.2.z3, value b.startFlows.z4 goal.2.z4⟩
      (s.admissionPass i).strand k = { x with
        blend := some { b with k := b.k + 1 }
        grant := { speed := value b.startSpeed goal.1, table := none, flows
                   demand := flows.z1 + flows.z2 + flows.z3 + flows.z4 } })
  ∧ ∀ start target k n : Nat, 0 < n →
    (k ≤ n → min start target ≤ blendValue start target k n ∧ blendValue start target k n ≤ max start target)
    ∧ blendValue start target 0 n = start ∧ blendValue start target n n = target

/-- A master frame with CLAIM set: granted at once for a real run, latched in HANDBACK, refused in TRIPPED, and no claim at a
strand that is not driving, in PASSIVE, TRACKING or a shadow run, whose frame passes with its markings (R139 to R142, R153,
R154). The order of the two alarms and the control bits that no rule names are the model's readings (log entries 19 and 27). -/
def Obligations.ClaimsByState : Prop :=
  ∀ (s : State) (f : Frame) (k : StrandId) (v f1 f2 f3 f4 c : Word),
    s.frameUse f = .slot (.actuator k) → f.payload = [v, f1, f2, f3, f4, c] → s.loading = false → c.getLsbD 0 = true →
    let x := s.strand k
    let o : Observed := { speed := v.toNat, flows := ⟨f1.toNat, f2.toNat, f3.toNat, f4.toNat⟩, claim := true }
    let sent := fun (s : State) (x : Strand) => s.send { f with
      payload := [word x.grant.speed, word x.grant.flows.z1, word x.grant.flows.z2, word x.grant.flows.z3,
        word x.grant.flows.z4, controlRewritten c x.ctx.state] }
    (x.ctx.realRun = true →
      let y : Strand := { x with
        ctx := { state := .tracking }, blend := none, grant := {}, shadowGrant := {}, observed := some o, silence := 0
        originating := false, mark := none, claimDue := false }
      let control := if x.ctx.releasePending then (c ||| 0x0010#16) &&& 0xFFFB#16 ||| 0x0002#16
        else c &&& 0xFFFB#16 ||| 0x0002#16
      let t := s.withStrand k y
      let t := if s.change ≠ .clear ∧ ∀ j, (t.strand j).mark = none then
        { t with change := .clear }.raise .change none 0 else t
      exec (.masterActuatorFrame f) s = .next
        ((t.raise .claim (some k) 0).send { f with payload := [v, f1, f2, f3, f4, control] }))
    ∧ (∀ b, x.ctx.state = .handback → x.blend = some b →
      exec (.masterActuatorFrame f) s = .next (sent (s.withStrand k { x with
        observed := some o, silence := 0, originating := false, blend := some { b with claim := true } }) x))
    ∧ (x.ctx.state = .tripped →
      exec (.masterActuatorFrame f) s = .next (sent { s.withStrand k { x with
          observed := some o, silence := 0, originating := false } with
        counters := { s.counters with claimsRefused := min (s.counters.claimsRefused + 1) 65535 } } x))
    ∧ (x.ctx.driving = false →
      let marked := if x.ctx.releasePending then c ||| 0x0010#16 else c
      let passed := if x.claimDue then marked &&& 0xFFFB#16 ||| 0x0002#16 else marked
      exec (.masterActuatorFrame f) s = .next ((s.withStrand k { x with
        ctx := { x.ctx with releasePending := false }, claimDue := false
        observed := if x.ctx.state = .passive then x.observed else some o, silence := 0, originating := false }).send
          { f with payload := [v, f1, f2, f3, f4, passed] }))

/-! ## The strand line (chapter 9) -/

/-- MASTER_ACTUATOR_FRAME without CLAIM: rewritten for a driving strand, passed with its markings otherwise, the master's
values recorded but for a PASSIVE strand (R153, R154, R158). The control bits that no rule names stay as received (log entry
19). -/
def Obligations.MasterFramesByState : Prop :=
  ∀ (s : State) (f : Frame) (k : StrandId) (v f1 f2 f3 f4 c : Word),
    s.frameUse f = .slot (.actuator k) → f.payload = [v, f1, f2, f3, f4, c] →
    let x := s.strand k
    let o : Observed := { speed := v.toNat, flows := ⟨f1.toNat, f2.toNat, f3.toNat, f4.toNat⟩, claim := false }
    let marked := if x.ctx.releasePending then c ||| 0x0010#16 else c
    let passed := if x.claimDue then marked &&& 0xFFFB#16 ||| 0x0002#16 else marked
    (s.loading = true → exec (.masterActuatorFrame f) s = .next (s.send f))
    ∧ (s.loading = false → c.getLsbD 0 = false → x.ctx.driving = true →
      exec (.masterActuatorFrame f) s = .next ((s.withStrand k { x with
        observed := some o, silence := 0, originating := false }).send { f with
          payload := [word x.grant.speed, word x.grant.flows.z1, word x.grant.flows.z2, word x.grant.flows.z3,
            word x.grant.flows.z4, controlRewritten c x.ctx.state] }))
    ∧ (s.loading = false → c.getLsbD 0 = false → x.ctx.driving = false →
      exec (.masterActuatorFrame f) s = .next ((s.withStrand k { x with
        ctx := { x.ctx with releasePending := false }, claimDue := false
        observed := if x.ctx.state = .passive then x.observed else some o, silence := 0, originating := false }).send
          { f with payload := [v, f1, f2, f3, f4, passed] }))
    ∧ (let r := controlRewritten c x.ctx.state
      r.getLsbD 0 = c.getLsbD 0 ∧ r.getLsbD 1 = false ∧ r.getLsbD 2 = true ∧ r.getLsbD 3 = false ∧ r.getLsbD 4 = false
      ∧ (r.extractLsb' 8 3).toNat = x.ctx.state.code)

/-- STATUS_SLOT_FRAME with its sixteen words, ORIGINATE and RETIRED_NODE_CLEAR (R149, R152, R155, R158, R172), and what the Line
Interface does at every beat: the retired number's beats, the BEAT frame in place of a silent LINE, the silence counts, and the
frames of the strands originating (R149, R155, R156). That ORIGINATE and RETIRED_NODE_CLEAR alone are the count events is the
model's reading of file 95 (log entry 3); the watch block of a strand outside the mask is its reading too (log entry 21). -/
def Obligations.StatusOriginationAndRetirement : Prop :=
  (∀ (s : State) (f : Frame), s.frameUse f = .slot .status →
    exec (.statusSlotFrame f) s = .next (s.send { f with payload := s.statusWords })
    ∧ s.statusWords.length = 16
    ∧ (s.loading = true → s.statusWords = 1 :: List.replicate 15 0)
    ∧ (s.loading = false →
      let flag := fun b : Bool => if b then 1 else 0
      let segment := fun x : Strand => match x.ctx.segment with | some (.seg n) => n.val | some .atEnd => 8 | none => 255
      let speed := fun x : Strand => match x.ctx.state with
        | .ramping | .holding => x.ctx.acc / 64
        | .handback | .tripped => x.grant.speed
        | .passive | .tracking => 0
      let demand := fun x : Strand => if x.ctx.shadow then x.shadowGrant.demand else x.grant.demand
      let part := 2 * (match s.current with | .line => 0 | .pulse => 1 | .localGen => 2) + 8 * flag s.fail
        + 16 * flag s.switchTo.isSome + 32 * flag s.freeze
        + 64 * (match s.change with | .clear => 0 | .lowering => 1 | .atLow => 2 | .swap => 3)
        + 256 * (match s.dip with | .normal => 0 | .dipped => 1) + 512 * s.alarms.length
      let summary := fun x : Strand => x.ctx.state.code
        + 8 * (flag x.ctx.hold.level + 2 * flag x.ctx.hold.sensor + 4 * flag x.ctx.hold.beat + 8 * flag x.ctx.hold.command
          + 16 * flag x.ctx.hold.change + 32 * flag x.ctx.hold.dip)
        + 512 * flag x.ctx.starved + 1024 * flag x.ctx.shadow + 2048 * flag x.ctx.enrolled + 4096 * flag x.originating
      let owned : StrandId → Bool := fun k => match s.working.config.mask with | some m => m.getLsbD k.val | none => false
      let watched := match s.watch with
        | none => [0, 0, 0, 0, 0]
        | some k => if owned k = true then
            [256 + k.val, speed (s.strand k), (match (s.ctx k).target with | some v => v | none => 0), segment (s.strand k),
              demand (s.strand k)]
          else [256 + k.val, 0, 0, 0, 0]
      let total := (strandIds.map fun k => if (s.ctx k).driving then (s.strand k).grant.demand else 0).sum
      s.statusWords = (part :: (strandIds.map fun k => if owned k = true then summary (s.strand k) else 0) ++ watched
        ++ [min s.budget 65535, min total 65535]).map word))
  ∧ (∀ s : State,
    let starts := strandIds.filter fun k => (s.ctx k).driving && decide ((s.strand k).silence = 1)
    let counted := fun x : Strand => if x.ctx.driving = true ∧ x.silence < 2 then
      { x with silence := x.silence + 1, originating := x.originating || decide (x.silence = 1) } else x
    let beat : List Frame := if s.current ≠ .line ∧ s.lineMon.silent = true then
      [{ kind := 1, low := 0, origin := s.config.node, payload := [] }] else []
    let frames : List Frame := match s.config.slotBase with
      | none => []
      | some base => (strandIds.filter fun k => (s.ctx k).driving && (counted (s.strand k)).originating).map fun k =>
        { kind := 2, low := BitVec.ofNat 8 (base + 3 + 2 * k.val), origin := s.config.node
          payload :=
            let g := (s.strand k).grant
            [word g.speed, word g.flows.z1, word g.flows.z2, word g.flows.z3, word g.flows.z4,
              0x000C#16 ||| word ((s.ctx k).state.code * 256)] }
    s.lineBeat = starts.foldl (fun t k => t.raise .originate (some k) 0)
      { s.mapStrands (fun _ => counted) with
        retired := match s.retired with
          | none => none
          | some r => if 4 ≤ r.beats + 1 then none else some { r with beats := r.beats + 1 }
        down := s.down ++ (beat ++ frames).map Frame.wire })
  ∧ (∀ (s : State) (k : StrandId) (base : Nat), s.config.slotBase = some base → (s.ctx k).driving = true →
      (s.strand k).silence = 1 →
      let x := s.strand k
      let slot : Byte := BitVec.ofNat 8 (base + 3 + 2 * k.val)
      let g := x.grant
      exec (.originate k) s = .next (((s.withStrand k { x with silence := 2, originating := true }).raise .originate (some k)
        0).send { kind := 2, low := slot, origin := s.config.node
                  payload := [word g.speed, word g.flows.z1, word g.flows.z2, word g.flows.z3, word g.flows.z4,
                    0x000C#16 ||| word (x.ctx.state.code * 256)] }))
  ∧ ∀ (s : State) (r : Retired), s.retired = some r → r.beats = 3 →
      exec .retiredNodeClear s = .next { s with retired := none }

/-- SET_NODE (R149). -/
def Obligations.SetNodeRetiresTheOldNumber : Prop :=
  ∀ (s : State) (q : ReqHead) (n : Word), s.answers q →
    let old := s.working.config.node
    let go := exec (.setNode q n) s
    (s.op ≠ .idle → go = .next (s.reply 19 q .busy []))
    ∧ (s.op = .idle → (n.toNat = 0 ∨ 254 < n.toNat) → go = .next (s.reply 19 q .range []))
    ∧ (s.op = .idle → 1 ≤ n.toNat → n.toNat ≤ 254 → n.toNat = old.toNat → go = .next (s.reply 19 q .ok []))
    ∧ (s.op = .idle → 1 ≤ n.toNat → n.toNat ≤ 254 → n.toNat ≠ old.toNat →
        go = .next ({ s.setConfig fun c => { c with node := BitVec.ofNat 8 n.toNat } with
          retired := some { node := old, beats := 0 } }.reply 19 q .ok []))

/-- SET_SLOT_BASE and SET_STRAND_MASK (R151, R90, R105). -/
def Obligations.SlotBaseAndMaskMoveTheMap : Prop :=
  ∀ (s : State) (q : ReqHead) (w : Word), s.answers q →
    let unmapped := fun x : Strand =>
      { x with ctx := { x.ctx with releasePending := false }, claimDue := false, input := {} }
    let was := fun k => s.working.config.inMask k
    let stays := fun k : StrandId => w.getLsbD k
    let base := exec (.setSlotBase q w) s
    let mask := exec (.setStrandMask q w) s
    (s.op ≠ .idle → base = .next (s.reply 20 q .busy []) ∧ mask = .next (s.reply 21 q .busy []))
    ∧ (s.op = .idle → (∃ k, (s.ctx k).state ≠ .passive) → base = .next (s.reply 20 q .state []))
    ∧ (s.op = .idle → (∀ k, (s.ctx k).state = .passive) → 238 < w.toNat → base = .next (s.reply 20 q .range []))
    ∧ (s.op = .idle → (∀ k, (s.ctx k).state = .passive) → w.toNat ≤ 238 →
        base = .next ({ (s.setConfig fun c => { c with slotBase := some w.toNat }).mapStrands fun _ => unmapped with
          plantIn := {}, dip := .normal, dipCount := 0 }.reply 20 q .ok []))
    ∧ (s.op = .idle → 255 < w.toNat → mask = .next (s.reply 21 q .range []))
    ∧ (s.op = .idle → w.toNat ≤ 255 → (∃ k, was k = true ∧ stays k = false ∧ (s.ctx k).state ≠ .passive) →
        mask = .next (s.reply 21 q .state []))
    ∧ (s.op = .idle → w.toNat ≤ 255 → (∀ k, was k = true → stays k = false → (s.ctx k).state = .passive) →
        mask = .next (((s.setConfig fun c => { c with mask := some (BitVec.ofNat 8 w.toNat) }).mapStrands fun k x =>
          if was k && !stays k then unmapped x else if !was k && stays k then { x with input := {} } else x).reply 21 q .ok []))

/-- UNKNOWN_REQUEST: a request of a code the catalogue does not hold, or of a wrong length, is answered and counted (R157,
R161, R170). A TABLE_WRITE with another number of field words than its kind and index set is answered LENGTH and counted, by
either row; one of no kind is refused BUSY, CLOSED or RANGE, and not counted (R157, R158, R161). -/
def Obligations.UnknownRequestsAreCounted : Prop :=
  (∀ (s : State) (q : ReqHead) (index : Word) (fields : List Word) (i : Instr), s.isOwn q.origin = false →
    (i = .tableWriteSegment q index fields ∧ fields.length ≠ 7
      ∨ i = .tableWriteProfile q index fields ∧ fields.length ≠ 10
      ∨ i = .tableWriteCooling q index fields ∧ fields.length ≠ 5
      ∨ i = .tableWritePlant q index fields ∧ (index = 0 ∧ fields.length ≠ 10 ∨ index = 1 ∧ fields.length ≠ 5)
      ∨ i = .tableWriteLimits q index fields ∧ (index = 0 ∧ fields.length ≠ 5 ∨ index = 1 ∧ fields.length ≠ 12)) →
    exec i s = .next ({ s with
      counters := { s.counters with badRequest := min (s.counters.badRequest + 1) 65535 } }.reply 25 q .length []))
  ∧ ∀ (s : State) (f : Frame), s.frameUse f = .request →
    let counted := { s with counters := { s.counters with badRequest := min (s.counters.badRequest + 1) 65535 } }
    let go := exec (.unknownRequest f) s
    (f.payload = [] → go = .next (counted.reply 0 ⟨f.origin, 0⟩ .length []))
    ∧ (∀ code, f.payload = [code] → go = .next (counted.reply code ⟨f.origin, 0⟩ .length []))
    ∧ (∀ code tag ps, f.payload = code :: tag :: ps → code.toNat = 0 ∨ 32 < code.toNat →
        go = .next (counted.reply code ⟨f.origin, tag⟩ .unknown []))
    ∧ (∀ code tag ps, f.payload = code :: tag :: ps →
        (code.toNat ∈ [1, 2, 4, 5, 6, 7, 16, 18, 19, 20, 21, 30, 31, 32] ∧ ps.length ≠ 1
          ∨ code.toNat ∈ [10, 11, 12, 14, 15, 17, 22, 23, 24, 27, 29] ∧ ps.length ≠ 0
          ∨ code.toNat ∈ [9, 13, 26] ∧ ps.length ≠ 2 ∨ code.toNat ∈ [3, 28] ∧ ps.length ≠ 3
          ∨ code.toNat = 8 ∧ ps.length ≠ 9 ∨ code.toNat = 25 ∧ ps.length < 2) →
        go = .next (counted.reply code ⟨f.origin, tag⟩ .length []))
    ∧ (∀ tag kind index fields, f.payload = 25 :: tag :: kind :: index :: fields →
        let q : ReqHead := ⟨f.origin, tag⟩
        (kind = 0 ∧ fields.length ≠ 7 ∨ kind = 1 ∧ fields.length ≠ 10 ∨ kind = 2 ∧ fields.length ≠ 5
          ∨ kind = 3 ∧ (index = 0 ∧ fields.length ≠ 10 ∨ index = 1 ∧ fields.length ≠ 5)
          ∨ kind = 4 ∧ (index = 0 ∧ fields.length ≠ 5 ∨ index = 1 ∧ fields.length ≠ 12) →
          go = .next (counted.reply 25 q .length []))
        ∧ (4 < kind.toNat → s.loading = true → go = .next (s.reply 25 q .busy []))
        ∧ (4 < kind.toNat → s.loading = false →
          (s.latchOpen = false → go = .next (s.reply 25 q .closed []))
          ∧ (s.latchOpen = true → s.op ≠ .idle → go = .next (s.reply 25 q .busy []))
          ∧ (s.latchOpen = true → s.op = .idle → go = .next (s.reply 25 q .range []))))

/-- BAD_CHECK_FRAME, OWN_FRAME_RETURN, PASS_THROUGH_FRAME and MALFORMED_FRAME (R148, R150). DOWN is the model's log of what was
sent (log entry 14). That words of another number than their length word gives count as BAD_CHECK is its reading (log entry 23),
and that MALFORMED is counted during the start-up load its deduction (log entry 24). -/
def Obligations.FramesThatAreNotUsed : Prop :=
  (∀ (s : State) (ws : List Word), Frame.ofWire ws = none →
    exec (.badCheckFrame ws) s = .next { s with
      down := s.down ++ [ws], counters := { s.counters with badCheck := min (s.counters.badCheck + 1) 65535 } })
  ∧ ∀ (s : State) (f : Frame), f.payload.length ≤ 16 →
    (s.isOwn f.origin = true → exec (.ownFrameReturn f) s = .next s)
    ∧ (s.isOwn f.origin = false →
        (f.kind ≠ 1 ∧ f.kind ≠ 2 ∧ f.kind ≠ 3 ∨ f.kind = 3 ∧ f.low ≠ s.config.node
          ∨ f.kind = 2 ∧ s.config.slotUse f.low = none) →
        exec (.passThroughFrame f) s = .next { s with down := s.down ++ [f.wire] })
    ∧ (∀ u, s.isOwn f.origin = false → f.kind = 2 → s.config.slotUse f.low = some u → f.payload.length ≠ u.length →
        exec (.malformedFrame f) s = .next { s with
          down := s.down ++ [f.wire], counters := { s.counters with malformed := min (s.counters.malformed + 1) 65535 } })

/-- A frame of at most 16 payload words is read back from its words on the line, and from nothing else (R147). That words of
another number than the length gives are no frame is the model's reading (log entry 23). -/
def Obligations.FramesReadBackFromTheLine : Prop :=
  (∀ f : Frame, f.payload.length ≤ 16 → Frame.ofWire f.wire = some f)
  ∧ ∀ (ws : List Word) (f : Frame), Frame.ofWire ws = some f → f.payload.length ≤ 16 ∧ f.wire = ws

/-- Every request of the catalogue is read back from its payload, and a payload that is read as a request is that request's
(R157, R161). The time and the KEY level are what the payload does not carry (log entries 7 and 13). -/
def Obligations.RequestsReadBackFromTheirPayload : Prop :=
  (∀ (i : Instr) (q : ReqHead) (ws : List Word) (t : Nat) (key : KeyPos), i.wf = true → i.head = some q →
    i.requestPayload = some ws → (∀ p t', i = .setBeatPeriod q p t' → t' = t) →
    (∀ r c l key', i = .protectSet q r c l key' → key' = key) → decodeRequest q.origin t key ws = .command i)
  ∧ ∀ (i : Instr) (o : Byte) (ws : List Word) (t : Nat) (key : KeyPos), decodeRequest o t key ws = .command i →
    i.requestPayload = some ws ∧ ∃ tag, i.head = some ⟨o, tag⟩

/-! ## The profile store (chapter 10) -/

/-- TABLE_OPEN, TABLE_CLOSE and PROTECT_SET (R160, R164). That PROTECT_SET brings the KEY level with it is the model's choice
(log entry 13). -/
def Obligations.LatchAndProtection : Prop :=
  ∀ (s : State) (q : ReqHead), s.answers q →
    (s.op ≠ .idle → exec (.tableOpen q) s = .next (s.reply 23 q .busy []))
    ∧ (s.op = .idle → exec (.tableOpen q) s = .next ({ s with latchOpen := true }.reply 23 q .ok []))
    ∧ exec (.tableClose q) s = .next ({ s with latchOpen := false }.reply 24 q .ok [])
    ∧ ∀ (range cooling lock : Word) (key : KeyPos),
      let go := exec (.protectSet q range cooling lock key) s
      let s1 := { s with key }
      let locked := (∃ i, s.stored = some i ∧ s.incomplete = false ∧ i.config.protectLock = true) ∧ key = .run
      (s.latchOpen = false → go = .next (s1.reply 28 q .closed []))
      ∧ (s.latchOpen = true → s.op ≠ .idle → go = .next (s1.reply 28 q .busy []))
      ∧ (s.latchOpen = true → s.op = .idle → locked → go = .next (s1.reply 28 q .locked []))
      ∧ (s.latchOpen = true → s.op = .idle → ¬ locked → (7 < range.toNat ∨ 1 < cooling.toNat ∨ 1 < lock.toNat) →
          go = .next (s1.reply 28 q .range []))
      ∧ (s.latchOpen = true → s.op = .idle → ¬ locked → range.toNat ≤ 7 → cooling.toNat ≤ 1 → lock.toNat ≤ 1 →
          go = .next ((s1.setConfig fun c =>
            { c with rangeCode := range.toNat, coolingFlag := cooling ≠ 0, protectLock := lock ≠ 0 }).reply 28 q .ok []))

/-- An accepted TABLE_WRITE of each kind replaces its record whole and nothing else (R30, R32, R33, R48, R49, R161, R162). -/
def Obligations.TableWritesReplaceRecords : Prop :=
  ∀ (s : State) (q : ReqHead) (index : Word) (fields : List Word), s.answers q → s.latchOpen = true → s.op = .idle →
    let i := s.working
    let put := fun i' : Image => { s with working := i' }.reply 25 q .ok []
    (∀ (p : ProfileId) (n : Fin 8) (g : Segment), index.toNat = 8 * p.val + n.val →
      rangeProtects i.config.rangeCode p = false → s.profileInUse p = false → readSegment fields = some g →
      ((i.profile p).valid = true → profileOk i.tables ((i.segments[p]).set n g) (i.profile p) = true) →
      exec (.tableWriteSegment q index fields) s
        = .next (put { i with segments := i.segments.set p ((i.segments[p]).set n g) }))
    ∧ (∀ (p : ProfileId) (r : Profile), index.toNat = p.val → rangeProtects i.config.rangeCode p = false →
      s.profileInUse p = false → readProfile fields = some r → profileOk i.tables i.segments[p] r = true →
      exec (.tableWriteProfile q index fields) s = .next (put { i with profiles := i.profiles.set p r }))
    ∧ (∀ (t : TableId) (z : Fin 4) (valid : Bool) (c : CoolZone), index.toNat = 4 * t.val + z.val →
      i.config.coolingFlag = false → s.tableInUse t = false → readCooling fields = some (valid, c) →
      (valid = true ∨ (i.tables[t]).valid = false ∨ s.tableNamed t = false) →
      exec (.tableWriteCooling q index fields) s = .next (put { i with
        tables := i.tables.set t { valid, zones := Zones.put (i.tables[t]).zones z.val c } }))
    ∧ (∀ pl, index = 0 ∧ readPlant0 i.plant fields = some pl ∨ index = 1 ∧ readPlant1 i.tables i.plant fields = some pl →
      exec (.tableWritePlant q index fields) s = .next (put { i with plant := pl }))
    ∧ (∀ l, index = 0 → s.limitsInUse = false → s.oneTime = none → readLimits0 fields = some l →
      exec (.tableWriteLimits q index fields) s = .next (put { i with limitsSpeed := some l }))
    ∧ (∀ l, index = 1 → s.limitsInUse = false → s.oneTime = none → readLimits1 fields = some l →
      exec (.tableWriteLimits q index fields) s = .next (put { i with limitsFlow := some l }))

/-- The refusals of TABLE_WRITE in their order: CLOSED, BUSY, PROTECTED, INUSE, LOCKED, RANGE (R161). RANGE is for an index out
of range, a field out of range (R30, R48, R162), a write that leaves a valid profile short of R32 (R33), and one that makes a
cooling table not valid that a profile, the plant table or a pin names (R34, R49). The model's choice, DEDUCED by analogy with what
R161 says of a kind that sets no length, is that a SEGMENT, PROFILE or COOLING write with an index out of range names no record, so
that it is refused RANGE after CLOSED and BUSY whatever protection and in-use say (log entry 20): the clauses 255 < index, 31 < index
and 63 < index. -/
def Obligations.TableWriteRefusalsInOrder : Prop :=
  (∀ (s : State) (q : ReqHead) (index : Word) (fields : List Word), s.answers q →
    let refused := fun r => s.reply 25 q r []
    (∀ i kind, i = .tableWriteSegment q index fields ∧ kind = 0 ∨ i = .tableWriteProfile q index fields ∧ kind = 1
        ∨ i = .tableWriteCooling q index fields ∧ kind = 2 ∨ i = .tableWritePlant q index fields ∧ kind = 3
        ∨ i = .tableWriteLimits q index fields ∧ kind = 4 →
      tableLengthOk kind index fields = true →
      (s.latchOpen = false → exec i s = .next (refused .closed))
      ∧ (s.latchOpen = true → s.op ≠ .idle → exec i s = .next (refused .busy)))
    ∧ (s.latchOpen = true → s.op = .idle →
      (∀ p : ProfileId, index.toNat / 8 = p.val → fields.length = 7 →
        (rangeProtects s.working.config.rangeCode p = true →
          exec (.tableWriteSegment q index fields) s = .next (refused .guarded))
        ∧ (rangeProtects s.working.config.rangeCode p = false → s.profileInUse p = true →
          exec (.tableWriteSegment q index fields) s = .next (refused .inUse)))
      ∧ (∀ p : ProfileId, index.toNat = p.val → fields.length = 10 →
        (rangeProtects s.working.config.rangeCode p = true →
          exec (.tableWriteProfile q index fields) s = .next (refused .guarded))
        ∧ (rangeProtects s.working.config.rangeCode p = false → s.profileInUse p = true →
          exec (.tableWriteProfile q index fields) s = .next (refused .inUse)))
      ∧ (∀ t : TableId, index.toNat / 4 = t.val → fields.length = 5 →
        (s.working.config.coolingFlag = true → exec (.tableWriteCooling q index fields) s = .next (refused .guarded))
        ∧ (s.working.config.coolingFlag = false → s.tableInUse t = true →
          exec (.tableWriteCooling q index fields) s = .next (refused .inUse)))
      ∧ (index.toNat ≤ 1 → tableLengthOk 4 index fields = true →
        (s.limitsInUse = true → exec (.tableWriteLimits q index fields) s = .next (refused .inUse))
        ∧ (s.limitsInUse = false → s.oneTime ≠ none →
          exec (.tableWriteLimits q index fields) s = .next (refused .locked))))
    ∧ (s.latchOpen = true → s.op = .idle →
      let i := s.working
      (fields.length = 7 →
        (255 < index.toNat → exec (.tableWriteSegment q index fields) s = .next (refused .range))
        ∧ ∀ (p : ProfileId) (n : Fin 8), index.toNat = 8 * p.val + n.val →
          rangeProtects i.config.rangeCode p = false → s.profileInUse p = false →
          (readSegment fields = none ∨ (∃ g, readSegment fields = some g ∧ (i.profile p).valid = true
            ∧ profileOk i.tables ((i.segments[p]).set n g) (i.profile p) = false)) →
          exec (.tableWriteSegment q index fields) s = .next (refused .range))
      ∧ (fields.length = 10 →
        (31 < index.toNat → exec (.tableWriteProfile q index fields) s = .next (refused .range))
        ∧ ∀ p : ProfileId, index.toNat = p.val →
          rangeProtects i.config.rangeCode p = false → s.profileInUse p = false →
          (readProfile fields = none ∨ (∃ r, readProfile fields = some r ∧ profileOk i.tables i.segments[p] r = false)) →
          exec (.tableWriteProfile q index fields) s = .next (refused .range))
      ∧ (fields.length = 5 →
        (63 < index.toNat → exec (.tableWriteCooling q index fields) s = .next (refused .range))
        ∧ ∀ t : TableId, index.toNat / 4 = t.val → i.config.coolingFlag = false → s.tableInUse t = false →
          (readCooling fields = none ∨ (∃ z, readCooling fields = some (false, z) ∧ (i.tables[t]).valid = true
            ∧ s.tableNamed t = true)) →
          exec (.tableWriteCooling q index fields) s = .next (refused .range))
      ∧ (1 < index.toNat ∨ index = 0 ∧ fields.length = 10 ∧ readPlant0 i.plant fields = none
          ∨ index = 1 ∧ fields.length = 5 ∧ readPlant1 i.tables i.plant fields = none →
        exec (.tableWritePlant q index fields) s = .next (refused .range))
      ∧ (1 < index.toNat → s.oneTime ≠ none → exec (.tableWriteLimits q index fields) s = .next (refused .locked))
      ∧ (s.oneTime = none → (1 < index.toNat ∨ s.limitsInUse = false ∧ (index = 0 ∧ fields.length = 5 ∧ readLimits0 fields = none
            ∨ index = 1 ∧ fields.length = 12 ∧ readLimits1 fields = none)) →
        exec (.tableWriteLimits q index fields) s = .next (refused .range))))
  ∧ (∀ used target rate dwell confirm cooling next : Word,
    (readSegment [used, target, rate, dwell, confirm, cooling, next]).isSome = true ↔
      used.toNat ≤ 1 ∧ target.toNat ≤ 8000 ∧ 1 ≤ rate.toNat ∧ rate.toNat ≤ 4095 ∧ confirm.toNat ≤ 1
        ∧ (cooling.toNat ≤ 15 ∨ cooling = 255) ∧ next.toNat ≤ 8)
  ∧ (∀ valid first cooling hold release trip count reentry action tag : Word,
    (readProfile [valid, first, cooling, hold, release, trip, count, reentry, action, tag]).isSome = true ↔
      valid.toNat ≤ 1 ∧ first.toNat ≤ 7 ∧ cooling.toNat ≤ 15 ∧ hold.toNat ≤ 1000 ∧ release.toNat ≤ 1000 ∧ trip.toNat ≤ 1000
        ∧ 1 ≤ count.toNat ∧ count.toNat ≤ 255 ∧ reentry.toNat ≤ 7 ∧ action.toNat ≤ 1)
  ∧ (∀ valid coef offset lo hi : Word, (readCooling [valid, coef, offset, lo, hi]).isSome = true ↔
      valid.toNat ≤ 1 ∧ coef.toNat ≤ 2000 ∧ offset.toNat ≤ 4000 ∧ lo.toNat ≤ hi.toNat ∧ hi.toNat ≤ 4000)
  ∧ (∀ (pl : Plant) (speed rate lowering swap release swapping dip starvation deficit blend : Word),
    (readPlant0 pl [speed, rate, lowering, swap, release, swapping, dip, starvation, deficit, blend]).isSome = true ↔
      speed.toNat ≤ 8000 ∧ 1 ≤ rate.toNat ∧ rate.toNat ≤ 4095 ∧ 1 ≤ lowering.toNat ∧ swap.toNat ≤ release.toNat
        ∧ release.toNat ≤ 1000 ∧ 1 ≤ swapping.toNat ∧ 1 ≤ dip.toNat ∧ 1 ≤ starvation.toNat ∧ 1 ≤ deficit.toNat
        ∧ 1 ≤ blend.toNat ∧ blend.toNat ≤ 1000)
  ∧ (∀ (tables : Vector CoolTable 16) (pl : Plant) (loss frozen clear substitute table : Word),
    (readPlant1 tables pl [loss, frozen, clear, substitute, table]).isSome = true ↔
      1 ≤ loss.toNat ∧ 1 ≤ frozen.toNat ∧ 2 ≤ clear.toNat ∧ clear.toNat ≤ 255
        ∧ (table = 255 ∨ ∃ t : TableId, table.toNat = t.val ∧ (tables[t]).valid = true))
  ∧ (∀ speed rate reserve band count : Word, (readLimits0 [speed, rate, reserve, band, count]).isSome = true ↔
      100 ≤ speed.toNat ∧ speed.toNat ≤ 8000 ∧ 1 ≤ rate.toNat ∧ rate.toNat ≤ 4095 ∧ band.toNat ≤ 8000 ∧ 1 ≤ count.toNat)
  ∧ (∀ f1 f2 f3 f4 c1 c2 c3 c4 t1 t2 t3 t4 : Word,
    let zone := fun f c t : Word => f.toNat ≤ t.toNat ∧ t.toNat ≤ c.toNat ∧ c.toNat ≤ 4000
    (readLimits1 [f1, f2, f3, f4, c1, c2, c3, c4, t1, t2, t3, t4]).isSome = true ↔
      zone f1 c1 t1 ∧ zone f2 c2 t2 ∧ zone f3 c3 t3 ∧ zone f4 c4 t4)
  ∧ (∀ (tables : Vector CoolTable 16) (segs : Vector Segment 8) (r : Profile), profileOk tables segs r = true ↔
      r.releaseBand ≤ r.holdBand ∧ r.holdBand ≤ r.tripBand
        ∧ (r.valid = true →
          (segs[r.first]).used = true ∧ (segs[r.reentry]).used = true ∧ (tables[r.cooling]).valid = true
          ∧ ∀ n : Fin 8, (segs[n]).used = true →
            (∀ n', (segs[n]).next = .seg n' → (segs[n']).used = true)
            ∧ ∀ t, (segs[n]).cooling = some t → (tables[t]).valid = true))
  ∧ ∀ (s : State) (t : TableId), s.tableNamed t = true ↔
      (∃ p, (s.working.profile p).valid = true ∧ ((s.working.profile p).cooling = t
        ∨ ∃ n, (s.working.segment p n).used = true ∧ (s.working.segment p n).cooling = some t))
      ∨ s.plant.globalTable = some t ∨ ∃ k, (s.strand k).pin = some t

/-- TABLE_READ and the field words of each kind: a segment and a profile record (R28 to R30), a zone of a cooling table (R48), the
two parts of the plant table and of the limits table (R162); an absent table reads 255, END reads 8 (R163). -/
def Obligations.TableReadReplies : Prop :=
  ∀ (s : State) (q : ReqHead) (kind index : Word), s.answers q →
    let go := exec (.tableRead q kind index) s
    (∀ ws, s.readTable kind.toNat index = .ok ws → go = .next (s.reply 26 q .ok ws))
    ∧ (4 < kind.toNat ∨ kind = 0 ∧ 255 < index.toNat ∨ kind = 1 ∧ 31 < index.toNat ∨ kind = 2 ∧ 63 < index.toNat
        ∨ kind = 3 ∧ 1 < index.toNat ∨ kind = 4 ∧ 1 < index.toNat → go = .next (s.reply 26 q .range []))
    ∧ (kind = 4 → index = 0 ∧ s.working.limitsSpeed = none ∨ index = 1 ∧ s.working.limitsFlow = none →
        go = .next (s.reply 26 q .noLimits []))
    ∧ (∀ (p : ProfileId) (n : Fin 8), kind = 0 → index.toNat = 8 * p.val + n.val →
        let g := s.working.segment p n
        s.readTable 0 index = .ok g.words
        ∧ go = .next (s.reply 26 q .ok [if g.used then 1 else 0, word g.target, word g.rate, word g.minDwell,
            if g.confirm then 1 else 0, match g.cooling with | some t => word t.val | none => 255,
            match g.next with | .seg m => word m.val | .atEnd => 8]))
    ∧ (∀ p : ProfileId, kind = 1 → index.toNat = p.val →
        let r := s.working.profile p
        go = .next (s.reply 26 q .ok [if r.valid then 1 else 0, word r.first.val, word r.cooling.val, word r.holdBand,
            word r.releaseBand, word r.tripBand, word r.tripCount, word r.reentry.val,
            match r.endAction with | .stay => 0 | .handback => 1, word r.tag]))
    ∧ (∀ (t : TableId) (z : Fin 4), kind = 2 → index.toNat = 4 * t.val + z.val →
        let zones := (s.working.tables[t]).zones
        let c := match z with | 0 => zones.z1 | 1 => zones.z2 | 2 => zones.z3 | 3 => zones.z4
        go = .next (s.reply 26 q .ok [if (s.working.tables[t]).valid then 1 else 0, word c.coef, word c.offset, word c.tableMin,
            word c.tableMax]))
    ∧ (let pl := s.plant
      (kind = 3 → index = 0 → go = .next (s.reply 26 q .ok [word pl.changeSpeed, word pl.changeRate, word pl.loweringWindow,
          word pl.swapThreshold, word pl.releaseThreshold, word pl.swapWindow, word pl.dipWindow, word pl.starvationLimit,
          word pl.deficitLimit, word pl.blendBeats]))
      ∧ (kind = 3 → index = 1 → go = .next (s.reply 26 q .ok [word pl.lossWindow, word pl.frozenCount, word pl.clearCount,
          word pl.lossSubstitute, match pl.globalTable with | some t => word t.val | none => 255])))
    ∧ (∀ l, kind = 4 → index = 0 → s.working.limitsSpeed = some l → go = .next (s.reply 26 q .ok
        [word l.maxSpeed, word l.maxRate, word l.reserve, word l.followBand, word l.followCount]))
    ∧ (∀ l, kind = 4 → index = 1 → s.working.limitsFlow = some l → go = .next (s.reply 26 q .ok
        [word l.floor.z1, word l.floor.z2, word l.floor.z3, word l.floor.z4,
          word l.ceiling.z1, word l.ceiling.z2, word l.ceiling.z3, word l.ceiling.z4,
          word l.trip.z1, word l.trip.z2, word l.trip.z3, word l.trip.z4]))

/-- A record read after its write has the field words of the write (R30, R48, R161 to R163). -/
def Obligations.WriteThenReadReturnsTheFields : Prop :=
  ∀ (s t : State) (q : ReqHead) (index : Word) (fields : List Word), t.answers q →
    (writeSegmentBody index fields s = .ok (t, []) → exec (.tableRead q 0 index) t = .next (t.reply 26 q .ok fields))
    ∧ (writeProfileBody index fields s = .ok (t, []) → exec (.tableRead q 1 index) t = .next (t.reply 26 q .ok fields))
    ∧ (writeCoolingBody index fields s = .ok (t, []) → exec (.tableRead q 2 index) t = .next (t.reply 26 q .ok fields))
    ∧ (writePlantBody index fields s = .ok (t, []) → exec (.tableRead q 3 index) t = .next (t.reply 26 q .ok fields))
    ∧ (writeLimitsBody index fields s = .ok (t, []) → exec (.tableRead q 4 index) t = .next (t.reply 26 q .ok fields))

/-- COMMIT, COMMIT_DONE, LIMITS_LOCK and LOCK_DONE (R165, R166). When the written contents are fixed is the model's reading
(log entry 26). -/
def Obligations.StoreOperationsBeginAndEnd : Prop :=
  ∀ (s : State) (q : ReqHead), s.answers q →
    (s.latchOpen = false → exec (.commit q) s = .next (s.reply 27 q .closed [])
      ∧ exec (.limitsLock q) s = .next (s.reply 29 q .closed []))
    ∧ (s.latchOpen = true → s.op ≠ .idle → exec (.commit q) s = .next (s.reply 27 q .busy [])
      ∧ exec (.limitsLock q) s = .next (s.reply 29 q .busy []))
    ∧ (s.latchOpen = true → s.op = .idle → s.oneTime = none →
      exec (.commit q) s = .next ({ s with incomplete := true, op := .commit s.working }.reply 27 q .ok []))
    ∧ (∀ l, s.latchOpen = true → s.op = .idle → s.oneTime = some l →
      exec (.commit q) s = .next ({ s with
          incomplete := true
          op := .commit { s.working with
            limitsSpeed := s.stored.bind fun i => i.limitsSpeed
            limitsFlow := s.stored.bind fun i => i.limitsFlow } }.reply 27 q .ok [])
      ∧ exec (.limitsLock q) s = .next (s.reply 29 q .locked []))
    ∧ (s.latchOpen = true → s.op = .idle → s.oneTime = none → s.limits = none →
      exec (.limitsLock q) s = .next (s.reply 29 q .noLimits []))
    ∧ (∀ l, s.latchOpen = true → s.op = .idle → s.oneTime = none → s.limits = some l →
      exec (.limitsLock q) s = .next ({ s with op := .lock l }.reply 29 q .ok []))
    ∧ (∀ i, s.op = .commit i →
      exec .commitDone s = .next ({ s with stored := some i, incomplete := false, op := .idle, latchOpen := false }.raise
        .commitDone none 0))
    ∧ (∀ l, s.op = .lock l →
      exec .lockDone s = .next ({ s with oneTime := some l, op := .idle, latchOpen := false }.raise .lockDone none 0))

/-- WARM_RESET and PART_RESET (R3, R69, R90, R91, R105, R131, R158, R160, R168, R170, R171). That the load goes on through a
warm reset, and the reply before the reset, are the model's readings (log entries 10 and 11). -/
def Obligations.WarmResetValues : Prop :=
  ∀ (s : State) (q : ReqHead),
    let warm := fun s : State =>
      { s.mapStrands (fun _ x => { ctx := { releasePending := x.ctx.releasePending || x.ctx.driving } }) with
        retired := none, plantIn := {}, pointer := 0, budget := 0, deficit := 0, change := .clear, loweringCount := 0
        swapCount := 0, dip := .normal, dipCount := 0, switchTo := none, fail := false, latchOpen := false, alarms := []
        counters := {}, watch := none }
    exec .warmReset s = .next (warm s)
    ∧ (s.answers q → exec (.partReset q) s = .next (warm (s.reply 22 q .ok [])))

/-- POWER_ON_RESET and START_UP_LOAD_DONE (R3, R115, R130, R158, R159, R167). What stands through a power-on reset beside the
stored areas, and the reading of the oscillator, are the model's choice (log entries 7 and 12). -/
def Obligations.PowerOnAndStartUpLoad : Prop :=
  ∀ (s : State) (t : Nat),
    exec .powerOnReset s = .next { State.reset with
      pending := s.pending, down := s.down, key := s.key, now := s.now, fresh := s.fresh
      stored := s.stored, incomplete := s.incomplete, oneTime := s.oneTime }
    ∧ (s.loading = true →
      let base := if s.incomplete then defaultImage else s.stored.getD defaultImage
      let image := match s.oneTime with
        | some l => { base with limitsSpeed := some l.speed, limitsFlow := some l.flow }
        | none => base
      let monitor : Monitor := { locked := false, run := 0, ref := t, hasLast := false, silent := false }
      let up := { s with
        working := image, loading := false, now := max s.now t, localNext := some (t + 1000 * image.config.period)
        lineMon := monitor, pulseMon := monitor
        switchTo := if image.config.startSource = .localGen then none else some image.config.startSource }
      exec (.startUpLoadDone t) s = .next (if s.incomplete then up.raise .storeIncomplete none 0 else up))

/-! ## Alarms, counters, the watch selection (chapter 11) -/

/-- ALARM_POP (R169), COUNTERS_READ (R170) and WATCH (R171). -/
def Obligations.AlarmPopCountersAndWatch : Prop :=
  (∀ (s : State) (q : ReqHead) (n : Word), s.answers q →
    (n.toNat = 0 ∨ 8 < n.toNat → exec (.alarmPop q n) s = .next (s.reply 30 q .range []))
    ∧ (1 ≤ n.toNat → n.toNat ≤ 8 →
      let m := min (min n.toNat s.alarms.length) 3
      exec (.alarmPop q n) s = .next ({ s with alarms := s.alarms.drop m }.reply 30 q .ok
        (word m :: (s.alarms.take m).flatMap fun a : Alarm =>
          [word (a.stamp.toNat / 65536), word a.stamp.toNat,
            word (a.kind.code * 256 + (match a.strand with | some k => k.val | none => 255)), word a.detail]))))
  ∧ ∀ (s : State) (q : ReqHead) (w : Word), s.answers q →
    let c := s.counters
    let group0 := [word c.badCheck, word c.malformed, word c.badRequest, word c.alarmOverflow, word c.irregularBeats,
      word c.claimsRefused]
    let group1 := [word c.trips[0], word c.trips[1], word c.trips[2], word c.trips[3], word c.trips[4], word c.trips[5],
      word c.trips[6], word c.trips[7]]
    (3 < w.toNat → exec (.countersRead q w) s = .next (s.reply 31 q .range []))
    ∧ (w = 0 → exec (.countersRead q w) s = .next (s.reply 31 q .ok group0))
    ∧ (w = 1 → exec (.countersRead q w) s = .next ({ s with counters := { trips := c.trips } }.reply 31 q .ok group0))
    ∧ (w = 2 → exec (.countersRead q w) s = .next (s.reply 31 q .ok group1))
    ∧ (w = 3 → exec (.countersRead q w) s = .next ({ s with counters := { c with trips := Vector.replicate 8 0 } }.reply 31
        q .ok group1))
    ∧ (w = 255 → exec (.watch q w) s = .next ({ s with watch := none }.reply 32 q .ok []))
    ∧ (∀ k : StrandId, w.toNat = k.val → exec (.watch q w) s = .next ({ s with watch := some k }.reply 32 q .ok []))
    ∧ (7 < w.toNat → w ≠ 255 → exec (.watch q w) s = .next (s.reply 32 q .range []))

/-! ## What every step keeps -/

/-- Every step leaves at most 32 alarm records queued and every counter in 0 to 65535 (R168, R170). -/
def Obligations.QueueAndCountersStayBounded : Prop :=
  ∀ s t : State, s.alarmsSound → s.counters.sound → step s = .next t → t.alarmsSound ∧ t.counters.sound

/-- Every step leaves each strand's records in agreement with its state (R2, R15, R57, R91, R132, R141, R153, R155). -/
def Obligations.StrandRecordsStaySound : Prop :=
  ∀ s t : State, s.strandsSound → step s = .next t → t.strandsSound

/-- Every step leaves the enrolled set empty exactly when the coordinator is CLEAR (R91, R102). -/
def Obligations.EnrolledSetFollowsTheCoordinator : Prop :=
  ∀ s t : State, s.strandsSound → s.changeSound → step s = .next t → t.changeSound

/-- Every step keeps the dip state with the dip flag in force, the beat unit's flags, the values of the start-up load, the
INCOMPLETE marker of a running commit, and every strand that is not PASSIVE in the mask (R6, R105, R106, R122, R124, R125,
R130, R158, R165). -/
def Obligations.UnitsStayConsistent : Prop :=
  ∀ s t : State, s.dipSound → s.beatSound → s.loadSound → s.commitSound → s.mapSound → step s = .next t →
    t.dipSound ∧ t.beatSound ∧ t.loadSound ∧ t.commitSound ∧ t.mapSound

/-- Every step keeps SENSOR, BEAT, CHANGE and DIP in the hold sets of running strands exactly while their conditions hold (R84,
R122, R96, R100, R107, R112). -/
def Obligations.HoldReasonsFollowTheirConditions : Prop :=
  ∀ s t : State, s.strandsSound → s.changeSound → s.dipSound → s.mapSound → s.holdsSound → step s = .next t →
    t.holdsSound

/-- Every step keeps the images valid and in range, every pin on a valid table, and every running strand in a used segment of a
valid profile or at END (R32 to R35, R49 to R51, R162). -/
def Obligations.RunsStayInUsedSegments : Prop :=
  ∀ s t : State, s.loadSound → s.imagesSound → s.runsSound → step s = .next t → t.imagesSound ∧ t.runsSound

/-- Every step keeps the limits table present while a strand runs, blends or is tripped, every accumulator within the maximum
speed, and every running strand's grant at the zone flows of its speed under its table (R9, R40, R57, R161). -/
def Obligations.SpeedsAndGrantsStayWithinLimits : Prop :=
  ∀ s t : State, s.strandsSound → s.loadSound → s.limitsSound → s.speedsSound → s.flowsSound → step s = .next t →
    t.limitsSound ∧ t.speedsSound ∧ t.flowsSound

/-- The state after reset meets everything the steps keep. -/
def Obligations.ResetMeetsTheInvariants : Prop :=
  State.reset.alarmsSound ∧ State.reset.counters.sound ∧ State.reset.strandsSound ∧ State.reset.changeSound
  ∧ State.reset.dipSound ∧ State.reset.beatSound ∧ State.reset.loadSound ∧ State.reset.commitSound ∧ State.reset.mapSound
  ∧ State.reset.holdsSound ∧ State.reset.imagesSound ∧ State.reset.runsSound ∧ State.reset.limitsSound
  ∧ State.reset.speedsSound ∧ State.reset.flowsSound
end

