-- ==== Sys2Proof/Laws/State.lean ====
section
/-! SUPPORT. What each update of the state leaves alone, field by field, and what reading a strand's records after an update gives. -/

namespace Sys2Proof.Machine

/-! ## Strand records -/

/-! ### `State.upd` -/

@[simp] theorem State.upd_pending (s : State) (k : StrandId) (f : Strand → Strand) : (s.upd k f).pending = s.pending := rfl
@[simp] theorem State.upd_down (s : State) (k : StrandId) (f : Strand → Strand) : (s.upd k f).down = s.down := rfl
@[simp] theorem State.upd_key (s : State) (k : StrandId) (f : Strand → Strand) : (s.upd k f).key = s.key := rfl
@[simp] theorem State.upd_now (s : State) (k : StrandId) (f : Strand → Strand) : (s.upd k f).now = s.now := rfl
@[simp] theorem State.upd_fresh (s : State) (k : StrandId) (f : Strand → Strand) : (s.upd k f).fresh = s.fresh := rfl
@[simp] theorem State.upd_loading (s : State) (k : StrandId) (f : Strand → Strand) : (s.upd k f).loading = s.loading := rfl
@[simp] theorem State.upd_retired (s : State) (k : StrandId) (f : Strand → Strand) : (s.upd k f).retired = s.retired := rfl
@[simp] theorem State.upd_plantIn (s : State) (k : StrandId) (f : Strand → Strand) : (s.upd k f).plantIn = s.plantIn := rfl
@[simp] theorem State.upd_pointer (s : State) (k : StrandId) (f : Strand → Strand) : (s.upd k f).pointer = s.pointer := rfl
@[simp] theorem State.upd_budget (s : State) (k : StrandId) (f : Strand → Strand) : (s.upd k f).budget = s.budget := rfl
@[simp] theorem State.upd_deficit (s : State) (k : StrandId) (f : Strand → Strand) : (s.upd k f).deficit = s.deficit := rfl
@[simp] theorem State.upd_change (s : State) (k : StrandId) (f : Strand → Strand) : (s.upd k f).change = s.change := rfl
@[simp] theorem State.upd_loweringCount (s : State) (k : StrandId) (f : Strand → Strand) : (s.upd k f).loweringCount = s.loweringCount := rfl
@[simp] theorem State.upd_swapCount (s : State) (k : StrandId) (f : Strand → Strand) : (s.upd k f).swapCount = s.swapCount := rfl
@[simp] theorem State.upd_dip (s : State) (k : StrandId) (f : Strand → Strand) : (s.upd k f).dip = s.dip := rfl
@[simp] theorem State.upd_dipCount (s : State) (k : StrandId) (f : Strand → Strand) : (s.upd k f).dipCount = s.dipCount := rfl
@[simp] theorem State.upd_current (s : State) (k : StrandId) (f : Strand → Strand) : (s.upd k f).current = s.current := rfl
@[simp] theorem State.upd_switchTo (s : State) (k : StrandId) (f : Strand → Strand) : (s.upd k f).switchTo = s.switchTo := rfl
@[simp] theorem State.upd_fail (s : State) (k : StrandId) (f : Strand → Strand) : (s.upd k f).fail = s.fail := rfl
@[simp] theorem State.upd_freeze (s : State) (k : StrandId) (f : Strand → Strand) : (s.upd k f).freeze = s.freeze := rfl
@[simp] theorem State.upd_beats (s : State) (k : StrandId) (f : Strand → Strand) : (s.upd k f).beats = s.beats := rfl
@[simp] theorem State.upd_lineMon (s : State) (k : StrandId) (f : Strand → Strand) : (s.upd k f).lineMon = s.lineMon := rfl
@[simp] theorem State.upd_pulseMon (s : State) (k : StrandId) (f : Strand → Strand) : (s.upd k f).pulseMon = s.pulseMon := rfl
@[simp] theorem State.upd_localNext (s : State) (k : StrandId) (f : Strand → Strand) : (s.upd k f).localNext = s.localNext := rfl
@[simp] theorem State.upd_working (s : State) (k : StrandId) (f : Strand → Strand) : (s.upd k f).working = s.working := rfl
@[simp] theorem State.upd_stored (s : State) (k : StrandId) (f : Strand → Strand) : (s.upd k f).stored = s.stored := rfl
@[simp] theorem State.upd_incomplete (s : State) (k : StrandId) (f : Strand → Strand) : (s.upd k f).incomplete = s.incomplete := rfl
@[simp] theorem State.upd_oneTime (s : State) (k : StrandId) (f : Strand → Strand) : (s.upd k f).oneTime = s.oneTime := rfl
@[simp] theorem State.upd_latchOpen (s : State) (k : StrandId) (f : Strand → Strand) : (s.upd k f).latchOpen = s.latchOpen := rfl
@[simp] theorem State.upd_op (s : State) (k : StrandId) (f : Strand → Strand) : (s.upd k f).op = s.op := rfl
@[simp] theorem State.upd_alarms (s : State) (k : StrandId) (f : Strand → Strand) : (s.upd k f).alarms = s.alarms := rfl
@[simp] theorem State.upd_counters (s : State) (k : StrandId) (f : Strand → Strand) : (s.upd k f).counters = s.counters := rfl
@[simp] theorem State.upd_watch (s : State) (k : StrandId) (f : Strand → Strand) : (s.upd k f).watch = s.watch := rfl

/-! ### `State.updCtx` -/

@[simp] theorem State.updCtx_pending (s : State) (k : StrandId) (f : Context → Context) : (s.updCtx k f).pending = s.pending := rfl
@[simp] theorem State.updCtx_down (s : State) (k : StrandId) (f : Context → Context) : (s.updCtx k f).down = s.down := rfl
@[simp] theorem State.updCtx_key (s : State) (k : StrandId) (f : Context → Context) : (s.updCtx k f).key = s.key := rfl
@[simp] theorem State.updCtx_now (s : State) (k : StrandId) (f : Context → Context) : (s.updCtx k f).now = s.now := rfl
@[simp] theorem State.updCtx_fresh (s : State) (k : StrandId) (f : Context → Context) : (s.updCtx k f).fresh = s.fresh := rfl
@[simp] theorem State.updCtx_loading (s : State) (k : StrandId) (f : Context → Context) : (s.updCtx k f).loading = s.loading := rfl
@[simp] theorem State.updCtx_retired (s : State) (k : StrandId) (f : Context → Context) : (s.updCtx k f).retired = s.retired := rfl
@[simp] theorem State.updCtx_plantIn (s : State) (k : StrandId) (f : Context → Context) : (s.updCtx k f).plantIn = s.plantIn := rfl
@[simp] theorem State.updCtx_pointer (s : State) (k : StrandId) (f : Context → Context) : (s.updCtx k f).pointer = s.pointer := rfl
@[simp] theorem State.updCtx_budget (s : State) (k : StrandId) (f : Context → Context) : (s.updCtx k f).budget = s.budget := rfl
@[simp] theorem State.updCtx_deficit (s : State) (k : StrandId) (f : Context → Context) : (s.updCtx k f).deficit = s.deficit := rfl
@[simp] theorem State.updCtx_change (s : State) (k : StrandId) (f : Context → Context) : (s.updCtx k f).change = s.change := rfl
@[simp] theorem State.updCtx_loweringCount (s : State) (k : StrandId) (f : Context → Context) : (s.updCtx k f).loweringCount = s.loweringCount := rfl
@[simp] theorem State.updCtx_swapCount (s : State) (k : StrandId) (f : Context → Context) : (s.updCtx k f).swapCount = s.swapCount := rfl
@[simp] theorem State.updCtx_dip (s : State) (k : StrandId) (f : Context → Context) : (s.updCtx k f).dip = s.dip := rfl
@[simp] theorem State.updCtx_dipCount (s : State) (k : StrandId) (f : Context → Context) : (s.updCtx k f).dipCount = s.dipCount := rfl
@[simp] theorem State.updCtx_current (s : State) (k : StrandId) (f : Context → Context) : (s.updCtx k f).current = s.current := rfl
@[simp] theorem State.updCtx_switchTo (s : State) (k : StrandId) (f : Context → Context) : (s.updCtx k f).switchTo = s.switchTo := rfl
@[simp] theorem State.updCtx_fail (s : State) (k : StrandId) (f : Context → Context) : (s.updCtx k f).fail = s.fail := rfl
@[simp] theorem State.updCtx_freeze (s : State) (k : StrandId) (f : Context → Context) : (s.updCtx k f).freeze = s.freeze := rfl
@[simp] theorem State.updCtx_beats (s : State) (k : StrandId) (f : Context → Context) : (s.updCtx k f).beats = s.beats := rfl
@[simp] theorem State.updCtx_lineMon (s : State) (k : StrandId) (f : Context → Context) : (s.updCtx k f).lineMon = s.lineMon := rfl
@[simp] theorem State.updCtx_pulseMon (s : State) (k : StrandId) (f : Context → Context) : (s.updCtx k f).pulseMon = s.pulseMon := rfl
@[simp] theorem State.updCtx_localNext (s : State) (k : StrandId) (f : Context → Context) : (s.updCtx k f).localNext = s.localNext := rfl
@[simp] theorem State.updCtx_working (s : State) (k : StrandId) (f : Context → Context) : (s.updCtx k f).working = s.working := rfl
@[simp] theorem State.updCtx_stored (s : State) (k : StrandId) (f : Context → Context) : (s.updCtx k f).stored = s.stored := rfl
@[simp] theorem State.updCtx_incomplete (s : State) (k : StrandId) (f : Context → Context) : (s.updCtx k f).incomplete = s.incomplete := rfl
@[simp] theorem State.updCtx_oneTime (s : State) (k : StrandId) (f : Context → Context) : (s.updCtx k f).oneTime = s.oneTime := rfl
@[simp] theorem State.updCtx_latchOpen (s : State) (k : StrandId) (f : Context → Context) : (s.updCtx k f).latchOpen = s.latchOpen := rfl
@[simp] theorem State.updCtx_op (s : State) (k : StrandId) (f : Context → Context) : (s.updCtx k f).op = s.op := rfl
@[simp] theorem State.updCtx_alarms (s : State) (k : StrandId) (f : Context → Context) : (s.updCtx k f).alarms = s.alarms := rfl
@[simp] theorem State.updCtx_counters (s : State) (k : StrandId) (f : Context → Context) : (s.updCtx k f).counters = s.counters := rfl
@[simp] theorem State.updCtx_watch (s : State) (k : StrandId) (f : Context → Context) : (s.updCtx k f).watch = s.watch := rfl

/-! ### `State.count` -/

@[simp] theorem State.count_pending (s : State) (f : Counters → Counters) : (s.count f).pending = s.pending := rfl
@[simp] theorem State.count_down (s : State) (f : Counters → Counters) : (s.count f).down = s.down := rfl
@[simp] theorem State.count_key (s : State) (f : Counters → Counters) : (s.count f).key = s.key := rfl
@[simp] theorem State.count_now (s : State) (f : Counters → Counters) : (s.count f).now = s.now := rfl
@[simp] theorem State.count_fresh (s : State) (f : Counters → Counters) : (s.count f).fresh = s.fresh := rfl
@[simp] theorem State.count_loading (s : State) (f : Counters → Counters) : (s.count f).loading = s.loading := rfl
@[simp] theorem State.count_strands (s : State) (f : Counters → Counters) : (s.count f).strands = s.strands := rfl
@[simp] theorem State.count_retired (s : State) (f : Counters → Counters) : (s.count f).retired = s.retired := rfl
@[simp] theorem State.count_plantIn (s : State) (f : Counters → Counters) : (s.count f).plantIn = s.plantIn := rfl
@[simp] theorem State.count_pointer (s : State) (f : Counters → Counters) : (s.count f).pointer = s.pointer := rfl
@[simp] theorem State.count_budget (s : State) (f : Counters → Counters) : (s.count f).budget = s.budget := rfl
@[simp] theorem State.count_deficit (s : State) (f : Counters → Counters) : (s.count f).deficit = s.deficit := rfl
@[simp] theorem State.count_change (s : State) (f : Counters → Counters) : (s.count f).change = s.change := rfl
@[simp] theorem State.count_loweringCount (s : State) (f : Counters → Counters) : (s.count f).loweringCount = s.loweringCount := rfl
@[simp] theorem State.count_swapCount (s : State) (f : Counters → Counters) : (s.count f).swapCount = s.swapCount := rfl
@[simp] theorem State.count_dip (s : State) (f : Counters → Counters) : (s.count f).dip = s.dip := rfl
@[simp] theorem State.count_dipCount (s : State) (f : Counters → Counters) : (s.count f).dipCount = s.dipCount := rfl
@[simp] theorem State.count_current (s : State) (f : Counters → Counters) : (s.count f).current = s.current := rfl
@[simp] theorem State.count_switchTo (s : State) (f : Counters → Counters) : (s.count f).switchTo = s.switchTo := rfl
@[simp] theorem State.count_fail (s : State) (f : Counters → Counters) : (s.count f).fail = s.fail := rfl
@[simp] theorem State.count_freeze (s : State) (f : Counters → Counters) : (s.count f).freeze = s.freeze := rfl
@[simp] theorem State.count_beats (s : State) (f : Counters → Counters) : (s.count f).beats = s.beats := rfl
@[simp] theorem State.count_lineMon (s : State) (f : Counters → Counters) : (s.count f).lineMon = s.lineMon := rfl
@[simp] theorem State.count_pulseMon (s : State) (f : Counters → Counters) : (s.count f).pulseMon = s.pulseMon := rfl
@[simp] theorem State.count_localNext (s : State) (f : Counters → Counters) : (s.count f).localNext = s.localNext := rfl
@[simp] theorem State.count_working (s : State) (f : Counters → Counters) : (s.count f).working = s.working := rfl
@[simp] theorem State.count_stored (s : State) (f : Counters → Counters) : (s.count f).stored = s.stored := rfl
@[simp] theorem State.count_incomplete (s : State) (f : Counters → Counters) : (s.count f).incomplete = s.incomplete := rfl
@[simp] theorem State.count_oneTime (s : State) (f : Counters → Counters) : (s.count f).oneTime = s.oneTime := rfl
@[simp] theorem State.count_latchOpen (s : State) (f : Counters → Counters) : (s.count f).latchOpen = s.latchOpen := rfl
@[simp] theorem State.count_op (s : State) (f : Counters → Counters) : (s.count f).op = s.op := rfl
@[simp] theorem State.count_alarms (s : State) (f : Counters → Counters) : (s.count f).alarms = s.alarms := rfl
@[simp] theorem State.count_watch (s : State) (f : Counters → Counters) : (s.count f).watch = s.watch := rfl

/-! ### `State.send` -/

@[simp] theorem State.send_pending (s : State) (f : Frame) : (s.send f).pending = s.pending := rfl
@[simp] theorem State.send_key (s : State) (f : Frame) : (s.send f).key = s.key := rfl
@[simp] theorem State.send_now (s : State) (f : Frame) : (s.send f).now = s.now := rfl
@[simp] theorem State.send_fresh (s : State) (f : Frame) : (s.send f).fresh = s.fresh := rfl
@[simp] theorem State.send_loading (s : State) (f : Frame) : (s.send f).loading = s.loading := rfl
@[simp] theorem State.send_strands (s : State) (f : Frame) : (s.send f).strands = s.strands := rfl
@[simp] theorem State.send_retired (s : State) (f : Frame) : (s.send f).retired = s.retired := rfl
@[simp] theorem State.send_plantIn (s : State) (f : Frame) : (s.send f).plantIn = s.plantIn := rfl
@[simp] theorem State.send_pointer (s : State) (f : Frame) : (s.send f).pointer = s.pointer := rfl
@[simp] theorem State.send_budget (s : State) (f : Frame) : (s.send f).budget = s.budget := rfl
@[simp] theorem State.send_deficit (s : State) (f : Frame) : (s.send f).deficit = s.deficit := rfl
@[simp] theorem State.send_change (s : State) (f : Frame) : (s.send f).change = s.change := rfl
@[simp] theorem State.send_loweringCount (s : State) (f : Frame) : (s.send f).loweringCount = s.loweringCount := rfl
@[simp] theorem State.send_swapCount (s : State) (f : Frame) : (s.send f).swapCount = s.swapCount := rfl
@[simp] theorem State.send_dip (s : State) (f : Frame) : (s.send f).dip = s.dip := rfl
@[simp] theorem State.send_dipCount (s : State) (f : Frame) : (s.send f).dipCount = s.dipCount := rfl
@[simp] theorem State.send_current (s : State) (f : Frame) : (s.send f).current = s.current := rfl
@[simp] theorem State.send_switchTo (s : State) (f : Frame) : (s.send f).switchTo = s.switchTo := rfl
@[simp] theorem State.send_fail (s : State) (f : Frame) : (s.send f).fail = s.fail := rfl
@[simp] theorem State.send_freeze (s : State) (f : Frame) : (s.send f).freeze = s.freeze := rfl
@[simp] theorem State.send_beats (s : State) (f : Frame) : (s.send f).beats = s.beats := rfl
@[simp] theorem State.send_lineMon (s : State) (f : Frame) : (s.send f).lineMon = s.lineMon := rfl
@[simp] theorem State.send_pulseMon (s : State) (f : Frame) : (s.send f).pulseMon = s.pulseMon := rfl
@[simp] theorem State.send_localNext (s : State) (f : Frame) : (s.send f).localNext = s.localNext := rfl
@[simp] theorem State.send_working (s : State) (f : Frame) : (s.send f).working = s.working := rfl
@[simp] theorem State.send_stored (s : State) (f : Frame) : (s.send f).stored = s.stored := rfl
@[simp] theorem State.send_incomplete (s : State) (f : Frame) : (s.send f).incomplete = s.incomplete := rfl
@[simp] theorem State.send_oneTime (s : State) (f : Frame) : (s.send f).oneTime = s.oneTime := rfl
@[simp] theorem State.send_latchOpen (s : State) (f : Frame) : (s.send f).latchOpen = s.latchOpen := rfl
@[simp] theorem State.send_op (s : State) (f : Frame) : (s.send f).op = s.op := rfl
@[simp] theorem State.send_alarms (s : State) (f : Frame) : (s.send f).alarms = s.alarms := rfl
@[simp] theorem State.send_counters (s : State) (f : Frame) : (s.send f).counters = s.counters := rfl
@[simp] theorem State.send_watch (s : State) (f : Frame) : (s.send f).watch = s.watch := rfl

/-! ### `State.setConfig` -/

@[simp] theorem State.setConfig_pending (s : State) (f : StoredConfig → StoredConfig) : (s.setConfig f).pending = s.pending := rfl
@[simp] theorem State.setConfig_down (s : State) (f : StoredConfig → StoredConfig) : (s.setConfig f).down = s.down := rfl
@[simp] theorem State.setConfig_key (s : State) (f : StoredConfig → StoredConfig) : (s.setConfig f).key = s.key := rfl
@[simp] theorem State.setConfig_now (s : State) (f : StoredConfig → StoredConfig) : (s.setConfig f).now = s.now := rfl
@[simp] theorem State.setConfig_fresh (s : State) (f : StoredConfig → StoredConfig) : (s.setConfig f).fresh = s.fresh := rfl
@[simp] theorem State.setConfig_loading (s : State) (f : StoredConfig → StoredConfig) : (s.setConfig f).loading = s.loading := rfl
@[simp] theorem State.setConfig_strands (s : State) (f : StoredConfig → StoredConfig) : (s.setConfig f).strands = s.strands := rfl
@[simp] theorem State.setConfig_retired (s : State) (f : StoredConfig → StoredConfig) : (s.setConfig f).retired = s.retired := rfl
@[simp] theorem State.setConfig_plantIn (s : State) (f : StoredConfig → StoredConfig) : (s.setConfig f).plantIn = s.plantIn := rfl
@[simp] theorem State.setConfig_pointer (s : State) (f : StoredConfig → StoredConfig) : (s.setConfig f).pointer = s.pointer := rfl
@[simp] theorem State.setConfig_budget (s : State) (f : StoredConfig → StoredConfig) : (s.setConfig f).budget = s.budget := rfl
@[simp] theorem State.setConfig_deficit (s : State) (f : StoredConfig → StoredConfig) : (s.setConfig f).deficit = s.deficit := rfl
@[simp] theorem State.setConfig_change (s : State) (f : StoredConfig → StoredConfig) : (s.setConfig f).change = s.change := rfl
@[simp] theorem State.setConfig_loweringCount (s : State) (f : StoredConfig → StoredConfig) : (s.setConfig f).loweringCount = s.loweringCount := rfl
@[simp] theorem State.setConfig_swapCount (s : State) (f : StoredConfig → StoredConfig) : (s.setConfig f).swapCount = s.swapCount := rfl
@[simp] theorem State.setConfig_dip (s : State) (f : StoredConfig → StoredConfig) : (s.setConfig f).dip = s.dip := rfl
@[simp] theorem State.setConfig_dipCount (s : State) (f : StoredConfig → StoredConfig) : (s.setConfig f).dipCount = s.dipCount := rfl
@[simp] theorem State.setConfig_current (s : State) (f : StoredConfig → StoredConfig) : (s.setConfig f).current = s.current := rfl
@[simp] theorem State.setConfig_switchTo (s : State) (f : StoredConfig → StoredConfig) : (s.setConfig f).switchTo = s.switchTo := rfl
@[simp] theorem State.setConfig_fail (s : State) (f : StoredConfig → StoredConfig) : (s.setConfig f).fail = s.fail := rfl
@[simp] theorem State.setConfig_freeze (s : State) (f : StoredConfig → StoredConfig) : (s.setConfig f).freeze = s.freeze := rfl
@[simp] theorem State.setConfig_beats (s : State) (f : StoredConfig → StoredConfig) : (s.setConfig f).beats = s.beats := rfl
@[simp] theorem State.setConfig_lineMon (s : State) (f : StoredConfig → StoredConfig) : (s.setConfig f).lineMon = s.lineMon := rfl
@[simp] theorem State.setConfig_pulseMon (s : State) (f : StoredConfig → StoredConfig) : (s.setConfig f).pulseMon = s.pulseMon := rfl
@[simp] theorem State.setConfig_localNext (s : State) (f : StoredConfig → StoredConfig) : (s.setConfig f).localNext = s.localNext := rfl
@[simp] theorem State.setConfig_stored (s : State) (f : StoredConfig → StoredConfig) : (s.setConfig f).stored = s.stored := rfl
@[simp] theorem State.setConfig_incomplete (s : State) (f : StoredConfig → StoredConfig) : (s.setConfig f).incomplete = s.incomplete := rfl
@[simp] theorem State.setConfig_oneTime (s : State) (f : StoredConfig → StoredConfig) : (s.setConfig f).oneTime = s.oneTime := rfl
@[simp] theorem State.setConfig_latchOpen (s : State) (f : StoredConfig → StoredConfig) : (s.setConfig f).latchOpen = s.latchOpen := rfl
@[simp] theorem State.setConfig_op (s : State) (f : StoredConfig → StoredConfig) : (s.setConfig f).op = s.op := rfl
@[simp] theorem State.setConfig_alarms (s : State) (f : StoredConfig → StoredConfig) : (s.setConfig f).alarms = s.alarms := rfl
@[simp] theorem State.setConfig_counters (s : State) (f : StoredConfig → StoredConfig) : (s.setConfig f).counters = s.counters := rfl
@[simp] theorem State.setConfig_watch (s : State) (f : StoredConfig → StoredConfig) : (s.setConfig f).watch = s.watch := rfl

/-! ### `State.atTime` -/

@[simp] theorem State.atTime_pending (s : State) (t : Nat) : (s.atTime t).pending = s.pending := rfl
@[simp] theorem State.atTime_down (s : State) (t : Nat) : (s.atTime t).down = s.down := rfl
@[simp] theorem State.atTime_key (s : State) (t : Nat) : (s.atTime t).key = s.key := rfl
@[simp] theorem State.atTime_fresh (s : State) (t : Nat) : (s.atTime t).fresh = s.fresh := rfl
@[simp] theorem State.atTime_loading (s : State) (t : Nat) : (s.atTime t).loading = s.loading := rfl
@[simp] theorem State.atTime_strands (s : State) (t : Nat) : (s.atTime t).strands = s.strands := rfl
@[simp] theorem State.atTime_retired (s : State) (t : Nat) : (s.atTime t).retired = s.retired := rfl
@[simp] theorem State.atTime_plantIn (s : State) (t : Nat) : (s.atTime t).plantIn = s.plantIn := rfl
@[simp] theorem State.atTime_pointer (s : State) (t : Nat) : (s.atTime t).pointer = s.pointer := rfl
@[simp] theorem State.atTime_budget (s : State) (t : Nat) : (s.atTime t).budget = s.budget := rfl
@[simp] theorem State.atTime_deficit (s : State) (t : Nat) : (s.atTime t).deficit = s.deficit := rfl
@[simp] theorem State.atTime_change (s : State) (t : Nat) : (s.atTime t).change = s.change := rfl
@[simp] theorem State.atTime_loweringCount (s : State) (t : Nat) : (s.atTime t).loweringCount = s.loweringCount := rfl
@[simp] theorem State.atTime_swapCount (s : State) (t : Nat) : (s.atTime t).swapCount = s.swapCount := rfl
@[simp] theorem State.atTime_dip (s : State) (t : Nat) : (s.atTime t).dip = s.dip := rfl
@[simp] theorem State.atTime_dipCount (s : State) (t : Nat) : (s.atTime t).dipCount = s.dipCount := rfl
@[simp] theorem State.atTime_current (s : State) (t : Nat) : (s.atTime t).current = s.current := rfl
@[simp] theorem State.atTime_switchTo (s : State) (t : Nat) : (s.atTime t).switchTo = s.switchTo := rfl
@[simp] theorem State.atTime_fail (s : State) (t : Nat) : (s.atTime t).fail = s.fail := rfl
@[simp] theorem State.atTime_freeze (s : State) (t : Nat) : (s.atTime t).freeze = s.freeze := rfl
@[simp] theorem State.atTime_beats (s : State) (t : Nat) : (s.atTime t).beats = s.beats := rfl
@[simp] theorem State.atTime_lineMon (s : State) (t : Nat) : (s.atTime t).lineMon = s.lineMon := rfl
@[simp] theorem State.atTime_pulseMon (s : State) (t : Nat) : (s.atTime t).pulseMon = s.pulseMon := rfl
@[simp] theorem State.atTime_localNext (s : State) (t : Nat) : (s.atTime t).localNext = s.localNext := rfl
@[simp] theorem State.atTime_working (s : State) (t : Nat) : (s.atTime t).working = s.working := rfl
@[simp] theorem State.atTime_stored (s : State) (t : Nat) : (s.atTime t).stored = s.stored := rfl
@[simp] theorem State.atTime_incomplete (s : State) (t : Nat) : (s.atTime t).incomplete = s.incomplete := rfl
@[simp] theorem State.atTime_oneTime (s : State) (t : Nat) : (s.atTime t).oneTime = s.oneTime := rfl
@[simp] theorem State.atTime_latchOpen (s : State) (t : Nat) : (s.atTime t).latchOpen = s.latchOpen := rfl
@[simp] theorem State.atTime_op (s : State) (t : Nat) : (s.atTime t).op = s.op := rfl
@[simp] theorem State.atTime_alarms (s : State) (t : Nat) : (s.atTime t).alarms = s.alarms := rfl
@[simp] theorem State.atTime_counters (s : State) (t : Nat) : (s.atTime t).counters = s.counters := rfl
@[simp] theorem State.atTime_watch (s : State) (t : Nat) : (s.atTime t).watch = s.watch := rfl

/-! ### `State.reply` -/

@[simp] theorem State.reply_pending (s : State) (c : Word) (q : ReqHead) (r : Result) (d : List Word) : (s.reply c q r d).pending = s.pending := rfl
@[simp] theorem State.reply_key (s : State) (c : Word) (q : ReqHead) (r : Result) (d : List Word) : (s.reply c q r d).key = s.key := rfl
@[simp] theorem State.reply_now (s : State) (c : Word) (q : ReqHead) (r : Result) (d : List Word) : (s.reply c q r d).now = s.now := rfl
@[simp] theorem State.reply_fresh (s : State) (c : Word) (q : ReqHead) (r : Result) (d : List Word) : (s.reply c q r d).fresh = s.fresh := rfl
@[simp] theorem State.reply_loading (s : State) (c : Word) (q : ReqHead) (r : Result) (d : List Word) : (s.reply c q r d).loading = s.loading := rfl
@[simp] theorem State.reply_strands (s : State) (c : Word) (q : ReqHead) (r : Result) (d : List Word) : (s.reply c q r d).strands = s.strands := rfl
@[simp] theorem State.reply_retired (s : State) (c : Word) (q : ReqHead) (r : Result) (d : List Word) : (s.reply c q r d).retired = s.retired := rfl
@[simp] theorem State.reply_plantIn (s : State) (c : Word) (q : ReqHead) (r : Result) (d : List Word) : (s.reply c q r d).plantIn = s.plantIn := rfl
@[simp] theorem State.reply_pointer (s : State) (c : Word) (q : ReqHead) (r : Result) (d : List Word) : (s.reply c q r d).pointer = s.pointer := rfl
@[simp] theorem State.reply_budget (s : State) (c : Word) (q : ReqHead) (r : Result) (d : List Word) : (s.reply c q r d).budget = s.budget := rfl
@[simp] theorem State.reply_deficit (s : State) (c : Word) (q : ReqHead) (r : Result) (d : List Word) : (s.reply c q r d).deficit = s.deficit := rfl
@[simp] theorem State.reply_change (s : State) (c : Word) (q : ReqHead) (r : Result) (d : List Word) : (s.reply c q r d).change = s.change := rfl
@[simp] theorem State.reply_loweringCount (s : State) (c : Word) (q : ReqHead) (r : Result) (d : List Word) : (s.reply c q r d).loweringCount = s.loweringCount := rfl
@[simp] theorem State.reply_swapCount (s : State) (c : Word) (q : ReqHead) (r : Result) (d : List Word) : (s.reply c q r d).swapCount = s.swapCount := rfl
@[simp] theorem State.reply_dip (s : State) (c : Word) (q : ReqHead) (r : Result) (d : List Word) : (s.reply c q r d).dip = s.dip := rfl
@[simp] theorem State.reply_dipCount (s : State) (c : Word) (q : ReqHead) (r : Result) (d : List Word) : (s.reply c q r d).dipCount = s.dipCount := rfl
@[simp] theorem State.reply_current (s : State) (c : Word) (q : ReqHead) (r : Result) (d : List Word) : (s.reply c q r d).current = s.current := rfl
@[simp] theorem State.reply_switchTo (s : State) (c : Word) (q : ReqHead) (r : Result) (d : List Word) : (s.reply c q r d).switchTo = s.switchTo := rfl
@[simp] theorem State.reply_fail (s : State) (c : Word) (q : ReqHead) (r : Result) (d : List Word) : (s.reply c q r d).fail = s.fail := rfl
@[simp] theorem State.reply_freeze (s : State) (c : Word) (q : ReqHead) (r : Result) (d : List Word) : (s.reply c q r d).freeze = s.freeze := rfl
@[simp] theorem State.reply_beats (s : State) (c : Word) (q : ReqHead) (r : Result) (d : List Word) : (s.reply c q r d).beats = s.beats := rfl
@[simp] theorem State.reply_lineMon (s : State) (c : Word) (q : ReqHead) (r : Result) (d : List Word) : (s.reply c q r d).lineMon = s.lineMon := rfl
@[simp] theorem State.reply_pulseMon (s : State) (c : Word) (q : ReqHead) (r : Result) (d : List Word) : (s.reply c q r d).pulseMon = s.pulseMon := rfl
@[simp] theorem State.reply_localNext (s : State) (c : Word) (q : ReqHead) (r : Result) (d : List Word) : (s.reply c q r d).localNext = s.localNext := rfl
@[simp] theorem State.reply_working (s : State) (c : Word) (q : ReqHead) (r : Result) (d : List Word) : (s.reply c q r d).working = s.working := rfl
@[simp] theorem State.reply_stored (s : State) (c : Word) (q : ReqHead) (r : Result) (d : List Word) : (s.reply c q r d).stored = s.stored := rfl
@[simp] theorem State.reply_incomplete (s : State) (c : Word) (q : ReqHead) (r : Result) (d : List Word) : (s.reply c q r d).incomplete = s.incomplete := rfl
@[simp] theorem State.reply_oneTime (s : State) (c : Word) (q : ReqHead) (r : Result) (d : List Word) : (s.reply c q r d).oneTime = s.oneTime := rfl
@[simp] theorem State.reply_latchOpen (s : State) (c : Word) (q : ReqHead) (r : Result) (d : List Word) : (s.reply c q r d).latchOpen = s.latchOpen := rfl
@[simp] theorem State.reply_op (s : State) (c : Word) (q : ReqHead) (r : Result) (d : List Word) : (s.reply c q r d).op = s.op := rfl
@[simp] theorem State.reply_alarms (s : State) (c : Word) (q : ReqHead) (r : Result) (d : List Word) : (s.reply c q r d).alarms = s.alarms := rfl
@[simp] theorem State.reply_counters (s : State) (c : Word) (q : ReqHead) (r : Result) (d : List Word) : (s.reply c q r d).counters = s.counters := rfl
@[simp] theorem State.reply_watch (s : State) (c : Word) (q : ReqHead) (r : Result) (d : List Word) : (s.reply c q r d).watch = s.watch := rfl

/-! ### `State.raise` -/

@[simp] theorem State.raise_pending (s : State) (a : AlarmKind) (k : Option StrandId) (d : Nat) : (s.raise a k d).pending = s.pending := by
  unfold State.raise; split <;> rfl
@[simp] theorem State.raise_down (s : State) (a : AlarmKind) (k : Option StrandId) (d : Nat) : (s.raise a k d).down = s.down := by
  unfold State.raise; split <;> rfl
@[simp] theorem State.raise_key (s : State) (a : AlarmKind) (k : Option StrandId) (d : Nat) : (s.raise a k d).key = s.key := by
  unfold State.raise; split <;> rfl
@[simp] theorem State.raise_now (s : State) (a : AlarmKind) (k : Option StrandId) (d : Nat) : (s.raise a k d).now = s.now := by
  unfold State.raise; split <;> rfl
@[simp] theorem State.raise_fresh (s : State) (a : AlarmKind) (k : Option StrandId) (d : Nat) : (s.raise a k d).fresh = s.fresh := by
  unfold State.raise; split <;> rfl
@[simp] theorem State.raise_loading (s : State) (a : AlarmKind) (k : Option StrandId) (d : Nat) : (s.raise a k d).loading = s.loading := by
  unfold State.raise; split <;> rfl
@[simp] theorem State.raise_strands (s : State) (a : AlarmKind) (k : Option StrandId) (d : Nat) : (s.raise a k d).strands = s.strands := by
  unfold State.raise; split <;> rfl
@[simp] theorem State.raise_retired (s : State) (a : AlarmKind) (k : Option StrandId) (d : Nat) : (s.raise a k d).retired = s.retired := by
  unfold State.raise; split <;> rfl
@[simp] theorem State.raise_plantIn (s : State) (a : AlarmKind) (k : Option StrandId) (d : Nat) : (s.raise a k d).plantIn = s.plantIn := by
  unfold State.raise; split <;> rfl
@[simp] theorem State.raise_pointer (s : State) (a : AlarmKind) (k : Option StrandId) (d : Nat) : (s.raise a k d).pointer = s.pointer := by
  unfold State.raise; split <;> rfl
@[simp] theorem State.raise_budget (s : State) (a : AlarmKind) (k : Option StrandId) (d : Nat) : (s.raise a k d).budget = s.budget := by
  unfold State.raise; split <;> rfl
@[simp] theorem State.raise_deficit (s : State) (a : AlarmKind) (k : Option StrandId) (d : Nat) : (s.raise a k d).deficit = s.deficit := by
  unfold State.raise; split <;> rfl
@[simp] theorem State.raise_change (s : State) (a : AlarmKind) (k : Option StrandId) (d : Nat) : (s.raise a k d).change = s.change := by
  unfold State.raise; split <;> rfl
@[simp] theorem State.raise_loweringCount (s : State) (a : AlarmKind) (k : Option StrandId) (d : Nat) : (s.raise a k d).loweringCount = s.loweringCount := by
  unfold State.raise; split <;> rfl
@[simp] theorem State.raise_swapCount (s : State) (a : AlarmKind) (k : Option StrandId) (d : Nat) : (s.raise a k d).swapCount = s.swapCount := by
  unfold State.raise; split <;> rfl
@[simp] theorem State.raise_dip (s : State) (a : AlarmKind) (k : Option StrandId) (d : Nat) : (s.raise a k d).dip = s.dip := by
  unfold State.raise; split <;> rfl
@[simp] theorem State.raise_dipCount (s : State) (a : AlarmKind) (k : Option StrandId) (d : Nat) : (s.raise a k d).dipCount = s.dipCount := by
  unfold State.raise; split <;> rfl
@[simp] theorem State.raise_current (s : State) (a : AlarmKind) (k : Option StrandId) (d : Nat) : (s.raise a k d).current = s.current := by
  unfold State.raise; split <;> rfl
@[simp] theorem State.raise_switchTo (s : State) (a : AlarmKind) (k : Option StrandId) (d : Nat) : (s.raise a k d).switchTo = s.switchTo := by
  unfold State.raise; split <;> rfl
@[simp] theorem State.raise_fail (s : State) (a : AlarmKind) (k : Option StrandId) (d : Nat) : (s.raise a k d).fail = s.fail := by
  unfold State.raise; split <;> rfl
@[simp] theorem State.raise_freeze (s : State) (a : AlarmKind) (k : Option StrandId) (d : Nat) : (s.raise a k d).freeze = s.freeze := by
  unfold State.raise; split <;> rfl
@[simp] theorem State.raise_beats (s : State) (a : AlarmKind) (k : Option StrandId) (d : Nat) : (s.raise a k d).beats = s.beats := by
  unfold State.raise; split <;> rfl
@[simp] theorem State.raise_lineMon (s : State) (a : AlarmKind) (k : Option StrandId) (d : Nat) : (s.raise a k d).lineMon = s.lineMon := by
  unfold State.raise; split <;> rfl
@[simp] theorem State.raise_pulseMon (s : State) (a : AlarmKind) (k : Option StrandId) (d : Nat) : (s.raise a k d).pulseMon = s.pulseMon := by
  unfold State.raise; split <;> rfl
@[simp] theorem State.raise_localNext (s : State) (a : AlarmKind) (k : Option StrandId) (d : Nat) : (s.raise a k d).localNext = s.localNext := by
  unfold State.raise; split <;> rfl
@[simp] theorem State.raise_working (s : State) (a : AlarmKind) (k : Option StrandId) (d : Nat) : (s.raise a k d).working = s.working := by
  unfold State.raise; split <;> rfl
@[simp] theorem State.raise_stored (s : State) (a : AlarmKind) (k : Option StrandId) (d : Nat) : (s.raise a k d).stored = s.stored := by
  unfold State.raise; split <;> rfl
@[simp] theorem State.raise_incomplete (s : State) (a : AlarmKind) (k : Option StrandId) (d : Nat) : (s.raise a k d).incomplete = s.incomplete := by
  unfold State.raise; split <;> rfl
@[simp] theorem State.raise_oneTime (s : State) (a : AlarmKind) (k : Option StrandId) (d : Nat) : (s.raise a k d).oneTime = s.oneTime := by
  unfold State.raise; split <;> rfl
@[simp] theorem State.raise_latchOpen (s : State) (a : AlarmKind) (k : Option StrandId) (d : Nat) : (s.raise a k d).latchOpen = s.latchOpen := by
  unfold State.raise; split <;> rfl
@[simp] theorem State.raise_op (s : State) (a : AlarmKind) (k : Option StrandId) (d : Nat) : (s.raise a k d).op = s.op := by
  unfold State.raise; split <;> rfl
@[simp] theorem State.raise_watch (s : State) (a : AlarmKind) (k : Option StrandId) (d : Nat) : (s.raise a k d).watch = s.watch := by
  unfold State.raise; split <;> rfl

/-! ### `State.moveChange` -/

@[simp] theorem State.moveChange_pending (s : State) (c : ChangeState) : (s.moveChange c).pending = s.pending := by
  simp [State.moveChange]
@[simp] theorem State.moveChange_down (s : State) (c : ChangeState) : (s.moveChange c).down = s.down := by
  simp [State.moveChange]
@[simp] theorem State.moveChange_key (s : State) (c : ChangeState) : (s.moveChange c).key = s.key := by
  simp [State.moveChange]
@[simp] theorem State.moveChange_now (s : State) (c : ChangeState) : (s.moveChange c).now = s.now := by
  simp [State.moveChange]
@[simp] theorem State.moveChange_fresh (s : State) (c : ChangeState) : (s.moveChange c).fresh = s.fresh := by
  simp [State.moveChange]
@[simp] theorem State.moveChange_loading (s : State) (c : ChangeState) : (s.moveChange c).loading = s.loading := by
  simp [State.moveChange]
@[simp] theorem State.moveChange_strands (s : State) (c : ChangeState) : (s.moveChange c).strands = s.strands := by
  simp [State.moveChange]
@[simp] theorem State.moveChange_retired (s : State) (c : ChangeState) : (s.moveChange c).retired = s.retired := by
  simp [State.moveChange]
@[simp] theorem State.moveChange_plantIn (s : State) (c : ChangeState) : (s.moveChange c).plantIn = s.plantIn := by
  simp [State.moveChange]
@[simp] theorem State.moveChange_pointer (s : State) (c : ChangeState) : (s.moveChange c).pointer = s.pointer := by
  simp [State.moveChange]
@[simp] theorem State.moveChange_budget (s : State) (c : ChangeState) : (s.moveChange c).budget = s.budget := by
  simp [State.moveChange]
@[simp] theorem State.moveChange_deficit (s : State) (c : ChangeState) : (s.moveChange c).deficit = s.deficit := by
  simp [State.moveChange]
@[simp] theorem State.moveChange_loweringCount (s : State) (c : ChangeState) : (s.moveChange c).loweringCount = s.loweringCount := by
  simp [State.moveChange]
@[simp] theorem State.moveChange_swapCount (s : State) (c : ChangeState) : (s.moveChange c).swapCount = s.swapCount := by
  simp [State.moveChange]
@[simp] theorem State.moveChange_dip (s : State) (c : ChangeState) : (s.moveChange c).dip = s.dip := by
  simp [State.moveChange]
@[simp] theorem State.moveChange_dipCount (s : State) (c : ChangeState) : (s.moveChange c).dipCount = s.dipCount := by
  simp [State.moveChange]
@[simp] theorem State.moveChange_current (s : State) (c : ChangeState) : (s.moveChange c).current = s.current := by
  simp [State.moveChange]
@[simp] theorem State.moveChange_switchTo (s : State) (c : ChangeState) : (s.moveChange c).switchTo = s.switchTo := by
  simp [State.moveChange]
@[simp] theorem State.moveChange_fail (s : State) (c : ChangeState) : (s.moveChange c).fail = s.fail := by
  simp [State.moveChange]
@[simp] theorem State.moveChange_freeze (s : State) (c : ChangeState) : (s.moveChange c).freeze = s.freeze := by
  simp [State.moveChange]
@[simp] theorem State.moveChange_beats (s : State) (c : ChangeState) : (s.moveChange c).beats = s.beats := by
  simp [State.moveChange]
@[simp] theorem State.moveChange_lineMon (s : State) (c : ChangeState) : (s.moveChange c).lineMon = s.lineMon := by
  simp [State.moveChange]
@[simp] theorem State.moveChange_pulseMon (s : State) (c : ChangeState) : (s.moveChange c).pulseMon = s.pulseMon := by
  simp [State.moveChange]
@[simp] theorem State.moveChange_localNext (s : State) (c : ChangeState) : (s.moveChange c).localNext = s.localNext := by
  simp [State.moveChange]
@[simp] theorem State.moveChange_working (s : State) (c : ChangeState) : (s.moveChange c).working = s.working := by
  simp [State.moveChange]
@[simp] theorem State.moveChange_stored (s : State) (c : ChangeState) : (s.moveChange c).stored = s.stored := by
  simp [State.moveChange]
@[simp] theorem State.moveChange_incomplete (s : State) (c : ChangeState) : (s.moveChange c).incomplete = s.incomplete := by
  simp [State.moveChange]
@[simp] theorem State.moveChange_oneTime (s : State) (c : ChangeState) : (s.moveChange c).oneTime = s.oneTime := by
  simp [State.moveChange]
@[simp] theorem State.moveChange_latchOpen (s : State) (c : ChangeState) : (s.moveChange c).latchOpen = s.latchOpen := by
  simp [State.moveChange]
@[simp] theorem State.moveChange_op (s : State) (c : ChangeState) : (s.moveChange c).op = s.op := by
  simp [State.moveChange]
@[simp] theorem State.moveChange_watch (s : State) (c : ChangeState) : (s.moveChange c).watch = s.watch := by
  simp [State.moveChange]
@[simp] theorem State.moveChange_change (s : State) (c : ChangeState) : (s.moveChange c).change = c := by
  simp [State.moveChange]

/-! ## Reading a strand after an update -/

theorem State.strand_upd (s : State) (k j : StrandId) (f : Strand → Strand) :
    (s.upd k f).strand j = if j = k then f (s.strand k) else s.strand j := by
  by_cases h : j = k
  · subst h; simp [State.upd, State.strand]
  · have h' : (k : Nat) ≠ j := fun e => h (Fin.ext e.symm)
    simp [State.upd, State.strand, h, h']

@[simp] theorem State.strand_upd_same (s : State) (k : StrandId) (f : Strand → Strand) :
    (s.upd k f).strand k = f (s.strand k) := by simp [State.strand_upd]

@[simp] theorem State.strand_upd_ne (s : State) {k j : StrandId} (h : j ≠ k) (f : Strand → Strand) :
    (s.upd k f).strand j = s.strand j := by simp [State.strand_upd, h]

theorem State.ctx_updCtx (s : State) (k j : StrandId) (f : Context → Context) :
    (s.updCtx k f).ctx j = if j = k then f (s.ctx k) else s.ctx j := by
  simp only [State.ctx, State.updCtx, State.strand_upd]; split <;> rfl

theorem State.strand_of_strands {s t : State} (h : t.strands = s.strands) (k : StrandId) : t.strand k = s.strand k := by
  simp only [State.strand, h]

@[simp] theorem State.strand_raise (s : State) (a : AlarmKind) (o : Option StrandId) (d : Nat) (k : StrandId) :
    (s.raise a o d).strand k = s.strand k := State.strand_of_strands (by simp) k

@[simp] theorem State.strand_send (s : State) (f : Frame) (k : StrandId) : (s.send f).strand k = s.strand k := rfl

@[simp] theorem State.strand_reply (s : State) (c : Word) (q : ReqHead) (r : Result) (d : List Word) (k : StrandId) :
    (s.reply c q r d).strand k = s.strand k := rfl

@[simp] theorem State.strand_count (s : State) (f : Counters → Counters) (k : StrandId) : (s.count f).strand k = s.strand k :=
  rfl

@[simp] theorem State.strand_setConfig (s : State) (f : StoredConfig → StoredConfig) (k : StrandId) :
    (s.setConfig f).strand k = s.strand k := rfl

@[simp] theorem State.strand_moveChange (s : State) (c : ChangeState) (k : StrandId) :
    (s.moveChange c).strand k = s.strand k := State.strand_of_strands (by simp) k

theorem State.upd_upd (s : State) (k : StrandId) (f g : Strand → Strand) :
    (s.upd k f).upd k g = s.upd k fun x => g (f x) := by
  simp [State.upd, State.strand]

theorem mem_strandIds (k : StrandId) : k ∈ strandIds := by
  revert k; decide

end Sys2Proof.Machine
end

