-- ==== Sys2Proof/Laws/Ops.lean ====
section
/-! SUPPORT. What the shared operations do, each said once: steps over several strands, orders, alarms, replies, hold reasons, trips. -/

namespace Sys2Proof.Machine

/-! ## Orders -/

theorem insertBy_perm {α : Type} (rank : α → Nat) (x : α) (l : List α) : (insertBy rank x l).Perm (x :: l) := by
  induction l with
  | nil => exact List.Perm.refl _
  | cons y ys ih =>
    unfold insertBy
    split
    · exact List.Perm.refl _
    · exact (List.Perm.cons y ih).trans (List.Perm.swap x y ys)

/-- Ordering by rank keeps the elements. -/
theorem orderBy_perm {α : Type} (rank : α → Nat) (l : List α) : (orderBy rank l).Perm l := by
  induction l with
  | nil => exact List.Perm.refl _
  | cons x xs ih => exact (insertBy_perm rank x _).trans (ih.cons x)

@[simp] theorem mem_orderBy {α : Type} (rank : α → Nat) (l : List α) (a : α) : a ∈ orderBy rank l ↔ a ∈ l :=
  (orderBy_perm rank l).mem_iff

theorem strandIds_nodup : strandIds.Nodup := by decide

theorem orderBy_nodup (rank : StrandId → Nat) : (orderBy rank strandIds).Nodup :=
  (orderBy_perm rank strandIds).nodup_iff.mpr strandIds_nodup

/-! ## Steps over several strands -/

/-- A property kept by the step for each strand of the list is kept by all of them. -/
theorem forStrands_induct (P : State → Prop) (l : List StrandId) (f : StrandId → State → State)
    (h : ∀ k ∈ l, ∀ s, P s → P (f k s)) : ∀ s, P s → P (forStrands l f s) := by
  induction l with
  | nil => intro s hs; exact hs
  | cons k l ih =>
    intro s hs
    exact ih (fun j hj => h j (List.mem_cons_of_mem _ hj)) _ (h k List.mem_cons_self s hs)

/-- t is s but for strand records, alarms and counters. -/
def State.near (s t : State) : Prop := t = { s with strands := t.strands, alarms := t.alarms, counters := t.counters }

theorem State.near_refl (s : State) : s.near s := rfl

theorem State.near_trans {s t u : State} (h : s.near t) (g : t.near u) : s.near u := by
  unfold State.near at *; rw [g, h]

theorem State.near_upd (s : State) (k : StrandId) (f : Strand → Strand) : s.near (s.upd k f) := rfl

theorem State.near_raise (s : State) (a : AlarmKind) (o : Option StrandId) (d : Nat) : s.near (s.raise a o d) := by
  unfold State.raise; split <;> rfl

theorem State.near_count (s : State) (f : Counters → Counters) : s.near (s.count f) := rfl

/-- Steps that each change the records of their own strand, by a function that the rest of the state fixes, change each strand
of a list without repeats by its own function, and nothing else but alarms and counters. -/
theorem forStrands_near (l : List StrandId) (hl : l.Nodup) (f : StrandId → State → State)
    (g : StrandId → Strand → Strand) (s : State)
    (h : ∀ k ∈ l, ∀ t, s.near t → t.near (f k t)
      ∧ ∀ j, (f k t).strand j = if j = k then g k (t.strand k) else t.strand j) :
    s.near (forStrands l f s)
      ∧ ∀ j, (forStrands l f s).strand j = if j ∈ l then g j (s.strand j) else s.strand j := by
  suffices H : ∀ l' : List StrandId, l'.Nodup → (∀ k ∈ l', k ∈ l) → ∀ t, s.near t →
      s.near (forStrands l' f t)
        ∧ ∀ j, (forStrands l' f t).strand j = if j ∈ l' then g j (t.strand j) else t.strand j from
    H l hl (fun _ hk => hk) s (State.near_refl s)
  intro l'
  induction l' with
  | nil => intro _ _ t ht; exact ⟨ht, fun j => by simp [forStrands]⟩
  | cons k l' ih =>
    intro hn hm t ht
    obtain ⟨h1, h2⟩ := h k (hm k List.mem_cons_self) t ht
    obtain ⟨hk, hn'⟩ := List.nodup_cons.mp hn
    obtain ⟨h3, h4⟩ := ih hn' (fun j hj => hm j (List.mem_cons_of_mem _ hj)) _ (State.near_trans ht h1)
    refine ⟨h3, fun j => ?_⟩
    change (forStrands l' f (f k t)).strand j = _
    rw [h4 j, h2 j]
    by_cases hjk : j = k
    · subst hjk; simp [hk]
    · simp [hjk]

/-! ## Alarms -/

/-- A raised alarm joins the queue while fewer than 32 records are queued, and the queue is left as it was otherwise (R168). -/
theorem State.raise_alarms (s : State) (a : AlarmKind) (o : Option StrandId) (d : Nat) :
    (s.raise a o d).alarms
      = if s.alarms.length < 32 then s.alarms ++ [{ stamp := s.beats, kind := a, strand := o, detail := d }] else s.alarms := by
  unfold State.raise; split <;> rfl

/-- A raised alarm leaves at most 32 records queued, if there were at most 32 (R168). -/
theorem State.raise_length (s : State) (a : AlarmKind) (o : Option StrandId) (d : Nat) (h : s.alarms.length ≤ 32) :
    (s.raise a o d).alarms.length ≤ 32 := by
  rw [State.raise_alarms]
  split
  · simp; omega
  · exact h

/-! ## Requests -/

/-- What a request can do: a frame of the part's own is dropped, the load refuses BUSY, and otherwise the owning rule's refusal
or effect comes with its reply (R148, R157). -/
theorem State.answer_cases (s : State) (code : Word) (q : ReqHead) (body : State → Answer) :
    s.isOwn q.origin = true ∧ s.answer code q body = s
      ∨ s.isOwn q.origin = false ∧ s.loading = true ∧ s.answer code q body = s.reply code q .busy []
      ∨ s.isOwn q.origin = false ∧ s.loading = false
        ∧ ((∃ r, body s = .error r ∧ s.answer code q body = s.reply code q r [])
          ∨ ∃ t d, body s = .ok (t, d) ∧ s.answer code q body = t.reply code q .ok d) := by
  unfold State.answer
  cases h1 : s.isOwn q.origin <;> cases h2 : s.loading <;> simp
  cases body s with
  | error r => exact .inl ⟨r, rfl, rfl⟩
  | ok v => exact .inr ⟨v.1, v.2, rfl, rfl⟩

/-- A request the part takes, where the owning rule accepts it. -/
theorem State.answer_ok {s t : State} {code : Word} {q : ReqHead} {body : State → Answer} {d : List Word}
    (h : s.answers q) (hb : body s = .ok (t, d)) : s.answer code q body = t.reply code q .ok d := by
  simp [State.answer, h.1, h.2, hb]

/-- A request the part takes, where the owning rule refuses it. -/
theorem State.answer_error {s : State} {code : Word} {q : ReqHead} {body : State → Answer} {r : Result}
    (h : s.answers q) (hb : body s = .error r) : s.answer code q body = s.reply code q r [] := by
  simp [State.answer, h.1, h.2, hb]

/-- The strand a request names is its strand operand (R6). -/
theorem State.strandOperand_names {s : State} {w : Word} {k : StrandId} (h : s.names w k) :
    s.strandOperand w = .ok k := by
  obtain ⟨h1, h2, h3⟩ := h
  have hk : strandNumber w = some k := by
    have := k.isLt
    simp only [strandNumber, h2, this, dite_true]
  simp [State.strandOperand, h1, hk, h3]

/-- A strand request on a strand it names is answered by its owning rule (R6). -/
theorem State.strandRequest_names {s : State} {w : Word} {k : StrandId} (h : s.names w k)
    (body : StrandId → State → Answer) : State.strandRequest w body s = body k s := by
  simp [State.strandRequest, State.strandOperand_names h]

end Sys2Proof.Machine
end

