-- ==== Sys2Proof/Laws/Operands.lean ====
section
/-! SUPPORT. What the operand readers answer, hold sets by their reasons, and one change of every strand's records as `State.mapStrands`. -/

namespace Sys2Proof.Machine

/-! ## Operands -/

/-- A strand number is read from exactly the words 0 to 7. -/
theorem strandNumber_eq_some {w : Word} {k : StrandId} : strandNumber w = some k ↔ w.toNat = k.val := by
  unfold strandNumber
  split
  · simp [Fin.ext_iff]
  · have := k.isLt; exact ⟨(fun h => by cases h), (fun h => by omega)⟩

theorem strandNumber_eq_none {w : Word} : strandNumber w = none ↔ 7 < w.toNat := by
  unfold strandNumber; split <;> simp <;> omega

/-- A profile number is read from exactly the words 0 to 31. -/
theorem profileNumber_eq_some {w : Word} {p : ProfileId} : profileNumber w = some p ↔ w.toNat = p.val := by
  unfold profileNumber
  split
  · simp [Fin.ext_iff]
  · have := p.isLt; exact ⟨(fun h => by cases h), (fun h => by omega)⟩

theorem profileNumber_eq_none {w : Word} : profileNumber w = none ↔ 31 < w.toNat := by
  unfold profileNumber; split <;> simp <;> omega

/-- A cooling table number is read from exactly the words 0 to 15. -/
theorem tableNumber_eq_some {w : Word} {t : TableId} : tableNumber w = some t ↔ w.toNat = t.val := by
  unfold tableNumber
  split
  · simp [Fin.ext_iff]
  · have := t.isLt; exact ⟨(fun h => by cases h), (fun h => by omega)⟩

theorem tableNumber_eq_none {w : Word} : tableNumber w = none ↔ 15 < w.toNat := by
  unfold tableNumber; split <;> simp <;> omega

/-- A word in its range is read as its value. -/
theorem rangeWord_eq_some {lo hi n : Nat} {w : Word} : rangeWord lo hi w = some n ↔ w.toNat = n ∧ lo ≤ n ∧ n ≤ hi := by
  unfold rangeWord; split <;> simp <;> omega

theorem rangeWord_eq_none {lo hi : Nat} {w : Word} : rangeWord lo hi w = none ↔ w.toNat < lo ∨ hi < w.toNat := by
  unfold rangeWord; split <;> simp <;> omega

/-- A flag word is 0 or 1. -/
theorem flagWord_eq_some {w : Word} {b : Bool} : flagWord w = some b ↔ w.toNat ≤ 1 ∧ b = decide (w ≠ 0) := by
  unfold flagWord
  split
  · next h => subst h; cases b <;> simp
  · next h0 =>
    split
    · next h => subst h; cases b <;> simp
    · next h1 =>
      constructor
      · intro h; cases h
      · intro ⟨h, _⟩
        have a : w.toNat ≠ 0 := fun hh => h0 (BitVec.eq_of_toNat_eq hh)
        have b : w.toNat ≠ 1 := fun hh => h1 (BitVec.eq_of_toNat_eq hh)
        omega

theorem flagWord_eq_none {w : Word} : flagWord w = none ↔ 1 < w.toNat := by
  cases h : flagWord w with
  | some b => have := (flagWord_eq_some.mp h).1; simp; omega
  | none =>
    refine ⟨fun _ => ?_, fun _ => rfl⟩
    by_contra hle
    have := (flagWord_eq_some (w := w)).mpr ⟨by omega, rfl⟩
    rw [h] at this; cases this

/-- The value of a word is read back from it. -/
theorem word_toNat (w : Word) : word w.toNat = w := by simp [word]

/-- A word that names no strand of the active map is refused (R6). -/
theorem State.strandOperand_refused {s : State} {w : Word} (h : ∀ k, ¬ s.names w k) : s.strandOperand w = .error .state := by
  unfold State.strandOperand
  split
  · next hm =>
    split
    · next k hk =>
      split
      · next hin => exact absurd ⟨hm, strandNumber_eq_some.mp hk, hin⟩ (h k)
      · rfl
    · rfl
  · rfl

/-! ## Hold sets -/

theorem HoldSet.has_put (h : HoldSet) (r r' : Reason) (b : Bool) : (h.put r b).has r' = if r' = r then b else h.has r' := by
  cases r <;> cases r' <;> simp [HoldSet.put, HoldSet.has]

theorem HoldSet.isEmpty_iff (h : HoldSet) : h.isEmpty = true ↔ ∀ r, h.has r = false := by
  constructor
  · intro hx r
    simp only [HoldSet.isEmpty, decide_eq_true_eq] at hx
    subst hx
    cases r <;> rfl
  · intro hx
    have h1 := hx .level; have h2 := hx .sensor; have h3 := hx .beat
    have h4 := hx .command; have h5 := hx .change; have h6 := hx .dip
    cases h
    simp_all [HoldSet.has, HoldSet.isEmpty]

/-- What the arrival of a reason for addition does (R16). -/
theorem Context.addReason_eq (r : Reason) (c : Context) :
    c.addReason r = { c with
      state := if c.running then .holding else c.state
      hold := if c.running then c.hold.put r true else c.hold } := by
  unfold Context.addReason; split <;> simp [*]

/-- What the arrival of a reason for removal does (R17). -/
theorem Context.removeReason_eq (r : Reason) (c : Context) :
    c.removeReason r = { c with
      state := if c.state = .holding ∧ (c.hold.put r false).isEmpty then .ramping else c.state
      hold := if c.state = .holding then c.hold.put r false else c.hold } := by
  unfold Context.removeReason
  by_cases h : c.state = .holding
  · simp only [h, if_true, true_and]
  · simp [h]

/-- The arrival of a reason leaves the running strands running. -/
@[simp] theorem Context.addReason_running (r : Reason) (c : Context) : (c.addReason r).running = c.running := by
  unfold Context.addReason; split
  · next h => rw [h]; simp [Context.running]
  · rfl

@[simp] theorem Context.removeReason_running (r : Reason) (c : Context) : (c.removeReason r).running = c.running := by
  unfold Context.removeReason
  split
  · next h => simp only [Context.running, h]; split <;> simp
  · rfl

/-! ## One change of every strand's records -/

/-- Two states that agree but for their strands, and strand by strand, are equal. -/
theorem State.ext_strands {s t : State} (h : t = { s with strands := t.strands }) (hk : ∀ k, t.strand k = s.strand k) : t = s := by
  have : t.strands = s.strands := Vector.ext fun i hi => hk ⟨i, hi⟩
  rw [h, this]

@[simp] theorem State.mapStrands_strand (s : State) (f : StrandId → Strand → Strand) (k : StrandId) :
    (s.mapStrands f).strand k = f k (s.strand k) := by
  simp [State.mapStrands, State.strand]

/-- An update of each strand of a list without repeats, each from its own records, is one change of them all. -/
theorem forStrands_upd (l : List StrandId) (hl : l.Nodup) (f : StrandId → Strand → Strand) (s : State) :
    forStrands l (fun k s => s.upd k (f k)) s = s.mapStrands fun k x => if k ∈ l then f k x else x := by
  have hs : ∀ (l : List StrandId) (s : State),
      forStrands l (fun k s => s.upd k (f k)) s = { s with strands := (forStrands l (fun k s => s.upd k (f k)) s).strands } := by
    intro l
    induction l with
    | nil => intro s; rfl
    | cons k l ih => intro s; exact (ih (s.upd k (f k))).trans rfl
  refine State.ext_strands ?_ fun k => ?_
  · rw [hs]; rfl
  · rw [State.mapStrands_strand]
    exact (forStrands_near l hl _ f s fun k _ t _ => ⟨State.near_upd t k _, fun j => by
      by_cases hj : j = k
      · subst hj; simp
      · simp [hj]⟩).2 k

/-- An update of every strand, each from its own records. -/
theorem forStrands_upd_all (f : StrandId → Strand → Strand) (s : State) :
    forStrands strandIds (fun k s => s.upd k (f k)) s = s.mapStrands f := by
  rw [forStrands_upd _ strandIds_nodup]
  congr 1
  funext k x
  simp [mem_strandIds]

/-- An update of the strands that meet a condition, each from its own records. -/
theorem forStrands_upd_filter (p : StrandId → Bool) (f : StrandId → Strand → Strand) (s : State) :
    forStrands (strandIds.filter p) (fun k s => s.upd k (f k)) s = s.mapStrands fun k x => if p k then f k x else x := by
  rw [forStrands_upd _ (strandIds_nodup.filter _)]
  congr 1
  funext k x
  simp [mem_strandIds]

end Sys2Proof.Machine
end

