-- ==== Sys2Proof/Laws/Pass.lean ====
section
/-! SUPPORT. The stages of a pass that reach one strand each: the blend step, the completion test and the close, each said once. -/

namespace Sys2Proof.Machine

/-- A blend step changes the records of its strand, alarms and counters, and nothing else; a strand out of HANDBACK takes none
(R135, R137). -/
theorem State.blendStep_near (k : StrandId) (s : State) :
    s.near (s.blendStep k) ∧ (∀ j, j ≠ k → (s.blendStep k).strand j = s.strand j)
      ∧ ((s.ctx k).state ≠ .handback → s.blendStep k = s) := by
  unfold State.blendStep
  split
  · next b h _ =>
    refine ⟨?_, fun j hj => ?_, fun hn => absurd h hn⟩
    · dsimp only [State.completeBlend]
      split
      · split
        · exact State.near_trans (State.near_upd s k _) (State.near_trans (State.near_upd _ k _)
            (State.near_trans (State.near_raise _ _ _ _) (State.near_raise _ _ _ _)))
        · exact State.near_trans (State.near_upd s k _) (State.near_trans (State.near_upd _ k _) (State.near_raise _ _ _ _))
      · exact State.near_upd s k _
    · dsimp only [State.completeBlend]
      split
      · split <;> simp [hj]
      · simp [hj]
  · exact ⟨State.near_refl s, fun _ _ => rfl, fun _ => rfl⟩

/-- What a completion test can do (R42 to R45): nothing, where the segment does not complete; entry into the next segment; END
with PROFILE_END; HANDBACK without an alarm; or, for a shadow run, TRACKING with HANDBACK_DONE. -/
theorem State.completionTest_cases (k : StrandId) (s : State) :
    (s.completionTest k = s ∧ ∀ g, s.segmentOf (s.ctx k) = some g →
      ¬ ((s.ctx k).state = .ramping ∧ (s.ctx k).enrolled = false ∧ s.completes k g = true))
    ∨ ∃ p n, (s.ctx k).profile = some p ∧ (s.ctx k).segment = some (.seg n) ∧ (s.ctx k).state = .ramping
        ∧ (s.ctx k).enrolled = false ∧ s.completes k (s.working.segment p n) = true
        ∧ ((∃ n', (s.working.segment p n).next = .seg n' ∧ s.completionTest k = s.enterSegment k n')
          ∨ (s.working.segment p n).next = .atEnd ∧ (s.working.profile p).endAction = .stay
            ∧ s.completionTest k = (s.updCtx k fun c =>
              { c with segment := some .atEnd, dwell := 0, confirmSeen := false }).raise .profileEnd (some k) p.val
          ∨ (s.working.segment p n).next = .atEnd ∧ (s.working.profile p).endAction = .handback ∧ (s.ctx k).shadow = false
            ∧ s.completionTest k = s.upd k (Strand.enterHandback s.plant.blendBeats)
          ∨ (s.working.segment p n).next = .atEnd ∧ (s.working.profile p).endAction = .handback ∧ (s.ctx k).shadow = true
            ∧ s.completionTest k = (s.upd k Strand.enterTracking).raise .handbackDone (some k) 1) := by
  rcases hp : (s.ctx k).profile with _ | p
  · exact .inl ⟨by simp [State.completionTest, State.segmentOf, hp], by simp [State.segmentOf, hp]⟩
  rcases hg : (s.ctx k).segment with _ | (n | _)
  · exact .inl ⟨by simp [State.completionTest, State.segmentOf, hp, hg], by simp [State.segmentOf, hp, hg]⟩
  · by_cases hc : (s.ctx k).state = .ramping ∧ (s.ctx k).enrolled = false ∧ s.completes k (s.working.segment p n) = true
    · refine .inr ⟨p, n, rfl, rfl, hc.1, hc.2.1, hc.2.2, ?_⟩
      rcases hn : (s.working.segment p n).next with n' | _
      · exact .inl ⟨n', rfl, by simp [State.completionTest, State.segmentOf, hp, hg, hc, hn]⟩
      · rcases he : (s.working.profile p).endAction with _ | _
        · exact .inr (.inl ⟨rfl, rfl, by
            simp [State.completionTest, State.segmentOf, State.profileOf, hp, hg, hc, hn, he]⟩)
        · rcases hs : (s.ctx k).shadow with _ | _
          · exact .inr (.inr (.inl ⟨rfl, rfl, rfl, by
              simp [State.completionTest, State.segmentOf, State.profileOf, State.leaveByHandback, hp, hg, hc, hn, he, hs]⟩))
          · exact .inr (.inr (.inr ⟨rfl, rfl, rfl, by
              simp [State.completionTest, State.segmentOf, State.profileOf, State.leaveByHandback, State.shadowReturn, hp, hg, hc,
                hn, he, hs]⟩))
    · refine .inl ⟨?_, ?_⟩
      · have hc' : ¬ ((s.ctx k).state = .ramping ∧ ¬ (s.ctx k).enrolled = true ∧ s.completes k (s.working.segment p n) = true) := by
          simpa using hc
        simp only [State.completionTest, State.segmentOf, hp, hg]
        rw [if_neg hc']
      · intro g h
        simp only [State.segmentOf, hp, hg, Option.some.injEq] at h
        rw [← h]; exact hc
  · exact .inl ⟨by simp [State.completionTest, State.segmentOf, hp, hg], by simp [State.segmentOf, hp, hg]⟩

/-- Segment entry changes the records of its strand and nothing else (R36). -/
theorem State.enterSegment_near (k : StrandId) (n : Fin 8) (s : State) :
    s.near (s.enterSegment k n) ∧ ∀ j, j ≠ k → (s.enterSegment k n).strand j = s.strand j := by
  unfold State.enterSegment
  split
  · exact ⟨State.near_refl s, fun _ _ => rfl⟩
  · dsimp only [State.applyOverride, State.updCtx]
    split
    · exact ⟨rfl, fun j hj => by simp [hj]⟩
    · exact ⟨rfl, fun j hj => by simp [hj]⟩

/-- A completion test changes the records of its strand, alarms and counters, and nothing else (R42 to R45). -/
theorem State.completionTest_near (k : StrandId) (s : State) :
    s.near (s.completionTest k) ∧ ∀ j, j ≠ k → (s.completionTest k).strand j = s.strand j := by
  rcases State.completionTest_cases k s with ⟨h, -⟩ | ⟨p, n, -, -, -, -, -, ⟨n', -, h⟩ | ⟨-, -, h⟩ | ⟨-, -, -, h⟩ | ⟨-, -, -, h⟩⟩ <;>
    rw [h]
  · exact ⟨State.near_refl s, fun _ _ => rfl⟩
  · exact State.enterSegment_near k n' s
  · exact ⟨State.near_trans (State.near_upd s k _) (State.near_raise _ _ _ _), fun j hj => by simp [State.updCtx, hj]⟩
  · exact ⟨State.near_upd s k _, fun j hj => by simp [hj]⟩
  · exact ⟨State.near_trans (State.near_upd s k _) (State.near_raise _ _ _ _), fun j hj => by simp [hj]⟩

/-- The STARVED alarms of a pass change alarms and counters, and no strand (R70). -/
theorem State.raiseStarved_near (l : List (StrandId × Bool)) (s : State) :
    s.near (s.raiseStarved l) ∧ ∀ j, (s.raiseStarved l).strand j = s.strand j := by
  induction l generalizing s with
  | nil => exact ⟨State.near_refl s, fun _ => rfl⟩
  | cons a l ih =>
    obtain ⟨h, g⟩ := ih (s.raise .starved (some a.1) (if a.2 then 1 else 0))
    exact ⟨State.near_trans (State.near_raise _ _ _ _) h, fun j => (g j).trans (State.strand_raise _ _ _ _ _)⟩

end Sys2Proof.Machine
end

