-- ==== Sys2Proof/Laws/Trips.lean ====
section
/-! SUPPORT. What a trip cause does to the strands it reaches, alone and for several strands at once. -/

namespace Sys2Proof.Machine

/-- The records of a strand after a trip cause reaches it: trip entry (R22), the would-be trip of a shadow strand (R24), or no
change (R23). -/
def Strand.afterTrip (why : Cause) (g : Grant) (x : Strand) : Strand :=
  if x.ctx.realRun ∨ x.ctx.state = .handback then x.enterTripped why g
  else if x.ctx.shadowRun then x.enterTracking
  else x

theorem State.tripGrant_near {s t : State} (h : s.near t) : t.tripGrant = s.tripGrant := by
  unfold State.near at h; rw [h]; rfl

/-- A trip cause changes the records of its strand, alarms and counters, and nothing else (R22 to R24). -/
theorem State.tripOne_near (why : Cause) (k : StrandId) (s : State) :
    s.near (s.tripOne why k)
      ∧ ∀ j, (s.tripOne why k).strand j
          = if j = k then (s.strand k).afterTrip why s.tripGrant else s.strand j := by
  unfold State.tripOne Strand.afterTrip State.ctx
  split
  · refine ⟨?_, fun j => ?_⟩
    · exact State.near_trans (State.near_trans (State.near_upd s k _) (State.near_count _ _)) (State.near_raise _ _ _ _)
    · simp [State.strand_upd]
  · split
    · exact ⟨State.near_trans (State.near_upd s k _) (State.near_raise _ _ _ _), fun j => by simp [State.strand_upd]⟩
    · refine ⟨State.near_refl s, fun j => ?_⟩
      split
      · next h => rw [h]
      · rfl

/-- A trip cause that reaches several strands changes the records of each of them, alarms and counters, and nothing else. -/
theorem State.trips_near (why : Cause) (ks : List StrandId) (hk : ks.Nodup) (s : State) :
    s.near (forStrands ks (State.tripOne why) s)
      ∧ ∀ j, (forStrands ks (State.tripOne why) s).strand j
          = if j ∈ ks then (s.strand j).afterTrip why s.tripGrant else s.strand j := by
  refine forStrands_near ks hk _ (fun _ => Strand.afterTrip why s.tripGrant) s fun k _ t ht => ?_
  have h := State.tripOne_near why k t
  rw [State.tripGrant_near ht] at h
  exact h

end Sys2Proof.Machine
end

