-- ==== Sys2Proof/Laws/Terms.lean ====
section
/-! SUPPORT. The terms of Safety.lean against the operations of the model: the end of a change, and the alarms of a sample. -/

namespace Sys2Proof.Machine

/-- The enrolled set is empty exactly when no strand has a low mark (R91). -/
theorem State.anyEnrolled_eq_false (s : State) : s.anyEnrolled = false ↔ ∀ k, (s.strand k).mark = none := by
  simp only [State.anyEnrolled, List.any_eq_false, Option.not_isSome_iff_eq_none, strandIds]
  refine ⟨fun h k => h k ?_, fun h k _ => h k⟩
  revert k; decide

/-- What the model does after the trips of an event is what the claims say of it (R92, R102). -/
theorem State.settleChange_eq_settled (s : State) : s.settleChange = s.settled := by
  unfold State.settleChange State.settled State.moveChange
  simp only [← State.anyEnrolled_eq_false, Bool.not_eq_true]
  rfl

theorem State.tripAll_eq_settled (why : Cause) (ks : List StrandId) (s : State) :
    s.tripAll why ks = (forStrands ks (State.tripOne why) s).settled := State.settleChange_eq_settled _

@[simp] theorem State.noteLoss_strand (k j : StrandId) (a b : StrandInput) (t : State) : (t.noteLoss k a b).strand j = t.strand j := by
  unfold State.noteLoss State.strand
  simp only
  split <;> split <;> simp

@[simp] theorem State.noteLoss_change (k : StrandId) (a b : StrandInput) (t : State) : (t.noteLoss k a b).change = t.change := by
  unfold State.noteLoss
  simp only
  split <;> split <;> simp

/-- A fresh sample leaves each input VALID or as it was, but for a VALID level input that it freezes (R78, R79). -/
theorem StrandInput.take_losses (pl : Plant) (x : SensorReading) (r : StrandInput) :
    ((r.take pl x).lvl.loss = .valid ∨ (r.take pl x).lvl.loss = (if r.lvl.loss = .valid then .loss .frozen else r.lvl.loss))
      ∧ ((r.take pl x).fb.loss = .valid ∨ (r.take pl x).fb.loss = r.fb.loss) := by
  unfold StrandInput.take StrandInput.freeze Input.sample
  constructor
  · simp only
    split
    · split <;> simp_all
    · simp only
      split <;> simp_all
  · simp only
    split <;> (try split) <;> simp only <;> split <;> (try split) <;> simp_all

/-- The alarms of the record that a fresh sample leaves are the ones the claims list (R78 to R80). -/
theorem State.setInput_take (s : State) (k : StrandId) (x : SensorReading) :
    s.setInput k ((s.strand k).input.take s.plant x)
      = (s.upd k fun y => { y with input := (s.strand k).input.take s.plant x }).noteLoss k (s.strand k).input
          ((s.strand k).input.take s.plant x) := by
  have h := StrandInput.take_losses s.plant x (s.strand k).input
  unfold State.setInput State.noteLoss State.raiseLoss
  simp only
  generalize (s.strand k).input.take s.plant x = after at h ⊢
  generalize s.upd k _ = t
  generalize (s.strand k).input.lvl.loss = a at h ⊢
  generalize (s.strand k).input.fb.loss = b at h ⊢
  generalize after.lvl.loss = a' at h ⊢
  generalize after.fb.loss = b' at h ⊢
  rcases a with _ | _ | _ <;> rcases b with _ | _ | _ <;> obtain ⟨rfl | rfl, rfl | rfl⟩ := h <;> rfl

end Sys2Proof.Machine
end

