-- ==== Sys2Proof/Tests/Slice0.lean ====
section
/-! SUPPORT. Tests: ill-formed terms, the line's check word, one step per command with the figures of the spec's worked examples,
and for every statement that has hypotheses a concrete state and operands that meet them. -/

set_option maxRecDepth 100000

namespace Sys2Proof.Tests

open Sys2Proof.Machine

/-! ## A part to test on -/

/-- A request of node 7. -/
def asker : ReqHead := { origin := 7, tag := 0x1234 }

/-- The state after a command. -/
def after (i : Instr) (s : State) : State :=
  match exec i s with
  | .next t => t
  | .fault _ => s
  | .refused _ => s

/-- Cooling table 3 of chapter 3's worked case. -/
def table3 : CoolTable :=
  { valid := true, zones := ⟨⟨120, 40, 60, 700⟩, ⟨90, 20, 40, 500⟩, ⟨50, 10, 20, 300⟩, ⟨30, 0, 10, 200⟩⟩ }

/-- The limits of the worked cases (chapters 1, 3 and 8). -/
def limits3 : Limits :=
  ⟨⟨3000, 256, 300, 150, 200⟩, ⟨⟨0, 0, 0, 0⟩, ⟨800, 600, 400, 250⟩, ⟨120, 80, 40, 20⟩⟩⟩

/-- Profile 9 of chapter 2's worked example. -/
def profile9 : Profile :=
  { valid := true, first := 0, cooling := 3, holdBand := 80, releaseBand := 40, tripBand := 150, tripCount := 3, reentry := 1
    endAction := .stay, tag := 2409 }

/-- The segments of profile 9. -/
def segments9 : Vector Segment 8 :=
  #v[{ used := true, target := 600, rate := 32, minDwell := 1500, confirm := true, cooling := none, next := .seg 1 },
    { used := true, target := 1800, rate := 18, minDwell := 2000, confirm := false, cooling := none, next := .seg 2 },
    { used := true, target := 2400, rate := 12, minDwell := 600, confirm := false, cooling := none, next := .atEnd },
    defaultSegment, defaultSegment, defaultSegment, defaultSegment, defaultSegment]

/-- A working image with that table, those limits and that profile, slot base 20 and the strands 0 to 6 in the mask. -/
def image9 : Image :=
  { defaultImage with
    profiles := defaultImage.profiles.set 9 profile9, segments := defaultImage.segments.set 9 segments9
    tables := defaultImage.tables.set 3 table3, limitsSpeed := some limits3.speed, limitsFlow := some limits3.flow
    config := { defaultConfig with slotBase := some 20, mask := some 0x7F } }

/-- An input record with both inputs VALID, level +12, sequence count 200 and a feedback reading. -/
def steady (feedback : Nat) : StrandInput :=
  { level := some 12, feedback := some feedback, seq := some 200, lvl := { loss := .valid }, fb := { loss := .valid } }

/-- A context that runs segment n of profile 9 at A. -/
def running (n : Fin 8) (acc target rate : Nat) : Context :=
  { state := .ramping, profile := some 9, segment := some (.seg n), acc, target := some target, rate := some rate }

/-- A part after the start-up load with one strand in each state: 0 RAMPING, 1 TRACKING, 2 HOLDING on COMMAND, 3 TRIPPED,
4 HANDBACK one step before its end, 5 a shadow run, 6 PASSIVE, 7 PASSIVE outside the mask. -/
def live : State :=
  { State.reset with
    loading := false, working := image9, localNext := some 10000
    plantIn := { weight := some 88, capacity := some 4100, seq := some 5, inp := { loss := .valid } }
    strands :=
      #v[{ ctx := running 1 115510 2400 18, grant := { speed := 1804, table := some 3, flows := ⟨256, 182, 100, 54⟩, demand := 592 }
           input := steady 1800 },
        { ctx := { state := .tracking }, observed := some ⟨350, ⟨1, 2, 3, 4⟩, false⟩, claimDue := true },
        { ctx := { running 0 25600 600 32 with state := .holding, hold := { command := true } }
          grant := { speed := 400, table := some 3, flows := ⟨88, 56, 30, 12⟩, demand := 186 }, input := steady 400
          silence := 1 },
        { ctx := { state := .tripped, cause := some .level }
          grant := { speed := 0, table := none, flows := ⟨120, 80, 40, 20⟩, demand := 260 }, input := steady 0 },
        { ctx := { state := .handback }
          blend := some { startSpeed := 1500, startFlows := ⟨220, 155, 85, 45⟩, k := 7, n := 8, claim := true }
          observed := some ⟨2100, ⟨300, 210, 120, 60⟩, false⟩, input := steady 0 },
        { ctx := { running 0 6400 600 32 with shadow := true }, input := steady 100 },
        { input := steady 0 },
        {}] }

/-- The same part with every strand PASSIVE. -/
def calm : State := { live with strands := Vector.replicate 8 {} }

/-- The same part with the latch open. -/
def editing : State := { live with latchOpen := true }

/-- A change in LOWERING: strands 0 and 2 are enrolled, strand 2 stands at its low mark. -/
def lowering : State :=
  { (live.upd 0 fun x => { x with ctx := { x.ctx with enrolled := true }, mark := some 32000 }).upd 2 fun x =>
      { x with ctx := { x.ctx with enrolled := true }, mark := some 25600 } with change := .lowering }

/-- A frame of node 7. -/
def frame (kind low : Byte) (payload : List Word) : Frame := { kind, low, origin := 7, payload }

/-! ## Ill-formed terms (R147, R148, R157, R161, file 00 Numbering) -/

theorem test_wf_refuses_node_0 : (Instr.track { origin := 0, tag := 1 } 0).wf = false := by decide
theorem test_wf_refuses_node_255 : (Instr.tableOpen { origin := 255, tag := 1 }).wf = false := by decide
theorem test_wf_refuses_write_from_node_0 :
    (Instr.tableWriteSegment { origin := 0, tag := 1 } 0 [1, 2, 3, 4, 0, 255, 8]).wf = false := by decide
theorem test_wf_refuses_short_segment : (Instr.tableWriteSegment asker 0 [1, 2, 3, 4, 0, 255]).wf = false := by decide
theorem test_wf_refuses_long_profile : (Instr.tableWriteProfile asker 0 (List.replicate 11 0)).wf = false := by decide
theorem test_wf_refuses_long_cooling : (Instr.tableWriteCooling asker 0 (List.replicate 6 0)).wf = false := by decide
theorem test_wf_refuses_plant_part_length : (Instr.tableWritePlant asker 1 (List.replicate 10 0)).wf = false := by decide
theorem test_wf_refuses_limits_part_length : (Instr.tableWriteLimits asker 0 (List.replicate 12 0)).wf = false := by decide
theorem test_wf_refuses_fields_beyond_a_frame : (Instr.tableWritePlant asker 2 (List.replicate 13 0)).wf = false := by decide
theorem test_wf_refuses_request_kind : (Instr.unknownRequest (frame 4 1 [])).wf = false := by decide
theorem test_wf_refuses_good_check : (Instr.badCheckFrame (frame 1 0 []).wire).wf = false := by decide
theorem test_wf_refuses_17_words : (Instr.passThroughFrame (frame 5 0 (List.replicate 17 0))).wf = false := by decide
theorem test_wf_refuses_own_from_node_0 : (Instr.ownFrameReturn { kind := 5, low := 0, origin := 0, payload := [] }).wf = false := by
  decide
theorem test_wf_refuses_malformed_kind : (Instr.malformedFrame (frame 3 20 [])).wf = false := by decide
theorem test_wf_refuses_beat_kind : (Instr.beatFrame (frame 2 0 []) 0).wf = false := by decide
theorem test_wf_refuses_sensor_length : (Instr.sensorSample (frame 2 22 [1, 2, 3])).wf = false := by decide
theorem test_wf_refuses_plant_length : (Instr.plantSample (frame 2 20 [1, 2, 3, 4, 5])).wf = false := by decide
theorem test_wf_refuses_actuator_length : (Instr.masterActuatorFrame (frame 2 23 [1, 2, 3, 4, 5])).wf = false := by decide
theorem test_wf_refuses_status_length : (Instr.statusSlotFrame (frame 2 21 [])).wf = false := by decide
theorem test_wf_refuses_local_silence : (Instr.sourceSilent .localGen).wf = false := by decide

/-! ## The line (R147, R157): expected words computed outside the model -/

/-- The published check value of CRC-16 with initial value 0xFFFF for the bytes of 12345678. -/
theorem test_crc_published : crc16 [0x3132, 0x3334, 0x3536, 0x3738] = 0xA12B := by decide

/-- A BEAT frame of node 7: words 0100, 0700 and a check word computed outside the model. -/
theorem test_beat_frame_words : (frame 1 0 []).wire = [0x0100, 0x0700, 0x6BE3] := by decide

theorem test_frame_reads_back : Frame.ofWire [0x0100, 0x0700, 0x6BE3] = some (frame 1 0 []) := by decide
theorem test_frame_bad_check : Frame.ofWire [0x0100, 0x0700, 0x6BE2] = none := by decide

theorem test_request_words :
    decodeRequest 7 0 .run [3, 0x1234, 4, 6, 1] = .command (.start { origin := 7, tag := 0x1234 } 4 6 1) := by decide

/-! ## One step per command -/

theorem test_power_on : (after .powerOnReset { live with incomplete := true }).loading = true
    ∧ (after .powerOnReset { live with incomplete := true }).incomplete = true := by decide

/-- R167's defaults: node 254, start-up source LINE, P = 10 ms. -/
theorem test_start_up_load : (after (.startUpLoadDone 300) State.reset).config.node = 254
    ∧ (after (.startUpLoadDone 300) State.reset).switchTo = some .line
    ∧ (after (.startUpLoadDone 300) State.reset).localNext = some 10300 := by decide

/-- R3: release pending for the strands that were driving, and not for a shadow run. -/
theorem test_warm_reset : ((after .warmReset live).ctx 0) = { releasePending := true }
    ∧ ((after .warmReset live).ctx 5) = {} := by decide

theorem test_part_reset : (after (.partReset asker) live).down.length = 1 ∧ (after (.partReset asker) live).watch = none := by
  decide

theorem test_track : ((after (.track asker 6) live).ctx 6).state = .tracking := by decide
theorem test_untrack : ((after (.untrack asker 1) live).strand 1) = {} := by decide

/-- Chapter 1's worked example, event 1: seed 350, SENSOR, A = 22400. -/
theorem test_start : ((after (.start asker 1 9 0) live).ctx 1).state = .holding
    ∧ ((after (.start asker 1 9 0) live).ctx 1).acc = 22400
    ∧ ((after (.start asker 1 9 0) live).ctx 1).hold = { sensor := true } := by decide

theorem test_start_refused : (after (.start asker 1 8 0) live).down = [(replyFrame 254 3 asker .noProfile []).wire] := by decide

theorem test_hold : ((after (.hold asker 0) live).ctx 0).state = .holding := by decide
theorem test_release : ((after (.release asker 2) live).ctx 2).state = .ramping := by decide
theorem test_clear_trip : ((after (.clearTrip asker 3) live).ctx 3) = { state := .tracking, releasePending := true } := by decide

/-- R27: state RAMPING, profile 9, segment 1, speed 1804, target 2400, demand 592. -/
theorem test_read_context : (live.strand 0).contextWords = [2, 0, 9, 1, 1804, 2400, 0, 0, 0, 0, 592] := by decide

theorem test_set_arbiter : (after (.setArbiter asker 0 #v[3, 2, 1, 0, 3, 2, 1, 0]) live).arbiterOrder
    = [3, 7, 2, 6, 1, 5, 0, 4] := by decide

theorem test_cool_pin : ((after (.coolPin asker 6 3) live).strand 6).pin = some 3 := by decide
theorem test_cool_pin_refused : (after (.coolPin asker 6 4) live).down = [(replyFrame 254 9 asker .range []).wire] := by decide

/-- Chapter 5's worked example: low mark 32000 and target 500 above it, the strand's own A and speed below it. -/
theorem test_change_begin : ((after (.changeBegin asker) live).strand 0).mark = some 32000
    ∧ ((after (.changeBegin asker) live).ctx 2).target = some 400
    ∧ ((after (.changeBegin asker) live).strand 5).mark = none := by decide

theorem test_change_cancel : ((after (.changeCancel asker) lowering).ctx 0).target = some 1800
    ∧ (after (.changeCancel asker) lowering).change = .clear := by decide

theorem test_swap_confirm : (after (.swapConfirm asker) { lowering with change := .swap }).enrolledSet = [] := by decide

theorem test_source_select : (after (.sourceSelect asker 1 0) live).switchTo = some .pulse := by decide
theorem test_source_cancel : (after (.sourceCancel asker) { live with switchTo := some .line }).switchTo = none := by decide
theorem test_source_freeze : (after (.sourceFreeze asker) live).freeze = true := by decide
theorem test_set_beat_period : (after (.setBeatPeriod asker 20 5000) calm).localNext = some 25000 := by decide
theorem test_fail_clear :
    ((after (.failClear asker) ({ live with fail := true }.addEverywhere .beat)).ctx 0).state = .ramping := by decide

theorem test_handback : ((after (.handback asker 0) live).strand 0).blend.map (fun b => (b.startSpeed, b.n)) = some (1804, 50) := by
  decide

theorem test_set_node : (after (.setNode asker 3) live).retired = some { node := 254, beats := 0 } := by decide
theorem test_set_slot_base : (after (.setSlotBase asker 238) calm).config.slotBase = some 238 := by decide
theorem test_set_strand_mask : (after (.setStrandMask asker 0xFF) live).config.inMask 7 = true := by decide
theorem test_set_strand_mask_refused : (after (.setStrandMask asker 0x7E) live).down = [(replyFrame 254 21 asker .state []).wire] := by
  decide

theorem test_table_open : (after (.tableOpen asker) live).latchOpen = true := by decide
theorem test_table_close : (after (.tableClose asker) editing).latchOpen = false := by decide

theorem test_write_segment : ((after (.tableWriteSegment asker 15 [1, 600, 32, 9, 0, 255, 8]) editing).working.segment 1 7).target
    = 600 := by decide
theorem test_write_segment_in_use : (after (.tableWriteSegment asker 72 [1, 600, 32, 9, 0, 255, 8]) editing).down
    = [(replyFrame 254 25 asker .inUse []).wire] := by decide
theorem test_write_profile : ((after (.tableWriteProfile asker 1 [0, 7, 3, 9, 5, 9, 255, 0, 1, 77]) editing).working.profile 1).tag
    = 77 := by decide
theorem test_write_cooling : (((after (.tableWriteCooling asker 17 [1, 7, 8, 9, 10]) editing).working.tables[4]).zones.z2)
    = ⟨7, 8, 9, 10⟩ := by decide
theorem test_write_plant : (after (.tableWritePlant asker 1 [7, 8, 9, 10, 3]) editing).plant.globalTable = some 3 := by decide
theorem test_write_limits_in_use : (after (.tableWriteLimits asker 0 [100, 1, 0, 0, 1]) editing).down
    = [(replyFrame 254 25 asker .inUse []).wire] := by decide
theorem test_write_limits : (after (.tableWriteLimits asker 0 [100, 1, 0, 0, 1]) { calm with latchOpen := true }).lim.speed.maxSpeed
    = 100 := by decide

theorem test_table_read : live.readTable 0 73 = .ok [1, 1800, 18, 2000, 0, 255, 2] := by decide

theorem test_commit : (after (.commit asker) editing).incomplete = true := by decide
theorem test_commit_done : (after .commitDone (after (.commit asker) editing)).stored = some editing.working
    ∧ (after .commitDone (after (.commit asker) editing)).latchOpen = false := by decide
theorem test_protect_set : (after (.protectSet asker 5 1 0 .run) editing).config.rangeCode = 5 := by decide
theorem test_limits_lock : (after (.limitsLock asker) editing).op = .lock limits3 := by decide
theorem test_lock_done : (after .lockDone (after (.limitsLock asker) editing)).oneTime = some limits3 := by decide

/-- R169: at most three records, the fourth stays. -/
theorem test_alarm_pop :
    (after (.alarmPop asker 8) ((((live.raise .trip none 1).raise .trip none 2).raise .trip none 3).raise .trip none 4)).alarms.map
      (fun a => a.detail) = [4] := by decide

theorem test_counters_read : (after (.countersRead asker 1) { live with counters := { badCheck := 9 } }).counters.badCheck = 0 := by
  decide
theorem test_watch : (after (.watch asker 7) live).watch = some 7 := by decide

theorem test_unknown_request : (after (.unknownRequest (frame 3 254 [33, 1])) live).counters.badRequest = 1 := by decide
theorem test_bad_check : (after (.badCheckFrame [1, 2, 3]) live).down = [[1, 2, 3]] := by decide
theorem test_own_frame : after (.ownFrameReturn { kind := 2, low := 23, origin := 254, payload := [] }) live = live := by decide
theorem test_pass_through : (after (.passThroughFrame (frame 2 36 [5])) live).down = [(frame 2 36 [5]).wire] := by decide
theorem test_malformed : (after (.malformedFrame (frame 2 23 [5])) live).counters.malformed = 1 := by decide

/-- R117: the eighth in-tolerance spacing locks the monitor; 11.25 ms is in tolerance at P = 10 ms. -/
theorem test_beat_frame : (after (.beatFrame (frame 1 0 []) 111250)
    { live with lineMon := { run := 7, ref := 100000, hasLast := true } }).lineMon.locked = true := by decide

/-- R117: 8.74 ms is out of tolerance at P = 10 ms. -/
theorem test_pulse_edge : (after (.pulseEdge 108740)
    { live with pulseMon := { run := 7, ref := 100000, hasLast := true } }).pulseMon.run = 0 := by decide

theorem test_local_expiry : (after .localExpiry { live with current := .line }).localNext = some 20000 := by decide

/-- Chapter 7's worked example: silence of LINE 30 ms after its last beat, BEAT at the running strands, none at HANDBACK. -/
theorem test_source_silent :
    let t := after (.sourceSilent .line) { live with current := .line, lineMon := { ref := 1000000, hasLast := true } }
    t.now = 1030000 ∧ t.current = .localGen ∧ (t.ctx 0).hold = { beat := true } ∧ (t.ctx 4).state = .handback := by decide

/-- No switch completes with an UNLOCKED monitor (R125). -/
theorem test_switch_not_complete : after (.switchComplete 5) { live with switchTo := some .line }
    = { live with switchTo := some .line } := by decide

/-- Chapter 8's worked blend figures, step 8: HANDBACK_DONE, then CLAIM with detail 1. -/
theorem test_blend_complete : ((after (.blendComplete 4) live).ctx 4).state = .tracking
    ∧ (after (.blendComplete 4) live).alarms.map (fun a => (a.kind, a.detail)) = [(.handbackDone, 0), (.claim, 1)] := by decide

/-- Chapter 8's worked blend figures: steps 5 of 1500 to 2100 and truncation toward zero. -/
theorem test_blend_values : blendValue 1500 2100 5 8 = 1875 ∧ blendValue 155 210 3 8 = 175 ∧ blendValue 2100 1500 3 8 = 1875
    ∧ blendValue 1503 1500 3 8 = 1502 := by decide

/-- Chapter 3's worked case: D(1804, 3) = 592, D(1805, 3) = 593, D(6000, 3) = 1680. -/
theorem test_demand : live.demand 1804 3 = 592 ∧ live.demand 1805 3 = 593 ∧ live.demand 6000 3 = 1680 := by decide

/-- Chapter 3's worked case: one litre left admits the step from 592 to 593. -/
theorem test_budget_edge_admits : ({ live with budget := 1039 }.phases.state.strand 0).grant.speed = 1805 := by decide

/-- With no litre left the step is refused (R62). -/
theorem test_budget_edge_refuses : ({ live with budget := 1038 }.phases.state.strand 0).grant.speed = 1804 := by decide

/-- A descent of strand 0 under a pin to a table of a higher demand, with no litre left. -/
def descending : State :=
  { live.upd 0 fun x => { x with pin := some 4, ctx := { x.ctx with target := some 600, rate := some 256 } } with
    working := { image9 with
      tables := image9.tables.set 4 { valid := true, zones := ⟨⟨0, 700, 0, 4000⟩, defaultZone, defaultZone, defaultZone⟩ } } }

/-- R63: the fallback takes the speed asked for, 1800, under the granted table, where it draws 256 + 182 + 100 + 54 litres. -/
theorem test_fallback : (descending.phases.state.strand 0).grant = live.grantFor 1800 3 ∧ (live.grantFor 1800 3).demand = 592 := by
  decide

/-- R64: a shadow request of 60 + 40 + 20 + 10 litres beside G = 1039 fits B = 1169 and does not fit 1168. -/
theorem test_shadow_edge : ({ live with budget := 1169 }.phases.state.strand 5).shadowGrant.demand = 130
    ∧ ({ live with budget := 1168 }.phases.state.strand 5).shadowGrant.demand = 0 := by decide

/-- Chapter 2's worked example: 115188 + 18 is capped at 115200. -/
theorem test_ramp_step : stepTowards 115188 115200 18 = 115200 ∧ stepTowards 38400 115200 18 = 38418 := by decide

theorem test_starved :
    (after (.starved 0) (live.updCtx 0 fun c => { c with starvedCount := 499 })).alarms.map (fun a => a.kind) = [.starved] := by decide

/-- Chapter 6's worked example: DEFICIT carries G - B. -/
theorem test_deficit : (after .deficit { live with deficit := 99, budget := 900 }).alarms.map (fun a => (a.kind, a.detail))
    = [(.deficit, 138)] := by decide

theorem test_input_silence :
    ((after (.inputSilence (.level 0)) (live.upd 0 fun x => { x with input := { x.input with lvl := ⟨.valid, 9, 0⟩ } })).ctx 0).hold
      = { sensor := true } := by decide

/-- R74, R85: a level of 95 is above the hold band of 80. -/
theorem test_sensor_sample : ((after (.sensorSample (frame 2 22 [95, 1804, 0, 201])) live).ctx 0).hold = { level := true } := by decide

/-- R89, R22: breakout trips the strand and takes the trip flows. -/
theorem test_sensor_breakout : ((after (.sensorSample (frame 2 22 [0, 1804, 1, 201])) live).ctx 0).cause = some .breakout
    ∧ ((after (.sensorSample (frame 2 22 [0, 1804, 1, 201])) live).strand 0).grant.demand = 260 := by decide

/-- Chapter 4's worked example: the 50th equal sample freezes the level input. -/
theorem test_level_frozen :
    ((after (.levelFrozen 0) (live.upd 0 fun x => { x with input := { x.input with identical := 49 } })).strand 0).input.lvl.loss
      = .loss .frozen := by decide

theorem test_input_clear :
    (after (.inputClear .plant) { live with plantIn := { live.plantIn with inp := ⟨.loss .silent, 0, 4⟩ } }).plantIn.inp.loss
      = .valid := by decide

theorem test_level_trip :
    ((after (.levelTrip 0) (live.updCtx 0 fun c => { c with levelExcess := 2 })).ctx 0).cause = some .level := by decide

theorem test_plant_sample_dip : (after (.plantSample (frame 2 20 [88, 1200, 1, 6])) live).dip = .dipped
    ∧ ((after (.plantSample (frame 2 20 [88, 1200, 1, 6])) live).ctx 5).reseed = true := by decide

/-- Chapter 6's worked example: the re-seed takes the least of feedback, maximum speed and A. -/
theorem test_dip_end :
    let dipped := after (.plantSample (frame 2 20 [88, 1200, 1, 6])) (live.upd 0 fun x => { x with input := steady 1000 })
    ((after (.plantSample (frame 2 20 [88, 3700, 0, 7])) dipped).ctx 0).acc = 64000
      ∧ ((after (.plantSample (frame 2 20 [88, 3700, 0, 7])) dipped).ctx 2).segment = some (.seg 1) := by decide

theorem test_dip_window : ((after .dipWindowExpiry
    { live.updCtx 0 Context.receiveDip with dip := .dipped, dipCount := 1499 }).ctx 0).cause = some .dipLong := by decide

theorem test_lowering_window : ((after .loweringWindowExpiry { lowering with loweringCount := 2999 }).ctx 0).cause = some .changeLate
    ∧ (after .loweringWindowExpiry { lowering with loweringCount := 2999 }).change = .atLow := by decide

theorem test_swap_window : (after .swapWindowExpiry { lowering with change := .swap, swapCount := 8999 }).change = .clear := by decide

theorem test_follow_trip :
    ((after (.followTrip 0) (live.upd 0 fun x => { x with input := steady 1600, ctx := { x.ctx with followCount := 199 } })).ctx
      0).cause = some .follow := by decide

/-- R154: a driving strand's frame carries the grant with DRIVING and state code 2. -/
theorem test_master_frame_driving : (after (.masterActuatorFrame (frame 2 23 [1750, 250, 175, 95, 50, 0])) live).down
    = [(frame 2 23 [1804, 256, 182, 100, 54, 0x0204]).wire] := by decide

/-- R140, R154: a claim on a real run is granted at once: the master's values, GRANT set, DRIVING clear. -/
theorem test_claim_granted : (after (.masterActuatorFrame (frame 2 23 [1760, 1, 2, 3, 4, 1])) live).down
    = [(frame 2 23 [1760, 1, 2, 3, 4, 3]).wire] := by decide

/-- R172: word 1 of the status slot is strand 0's summary, word 3 strand 2's, held by COMMAND. -/
theorem test_status_words : live.statusWords[1]? = some 2 ∧ live.statusWords[3]? = some 67
    ∧ live.statusWords[15]? = some 1038 := by decide

/-- Chapter 9's worked sequence: the second silent beat originates with DRIVING, ORIGINATED and the state code. -/
theorem test_originate : ((after (.originate 2) live).strand 2).originating = true
    ∧ (after (.originate 2) live).down
      = [({ kind := 2, low := 27, origin := 254, payload := [400, 88, 56, 30, 12, 0x030C] } : Frame).wire] := by decide

theorem test_retired_node_clear :
    (after .retiredNodeClear { live with retired := some { node := 9, beats := 3 } }).retired = none := by decide

theorem test_step_takes_front : step { live with pending := [.watch asker 3, .tableOpen asker] }
    = exec (.watch asker 3) { live with pending := [.tableOpen asker] } := rfl

/-! ## States and operands that meet the hypotheses of the statements, clause by clause -/

/-- The same part without a complete limits table. -/
def unlimited : State := { live with working := { image9 with limitsFlow := none } }

/-- The same part with a commit in progress. -/
def writing : State := { editing with op := .commit image9, incomplete := true }

/-- The same part with a burned limits table. -/
def burned : State := { editing with oneTime := some limits3 }

/-- A node of the part's own number. -/
def self : ReqHead := { origin := 254, tag := 1 }

theorem witness_StepTakesTheFrontCommand : live.pending = [] := rfl

theorem witness_RequestsDuringTheLoadReplyBusy :
    ((Instr.track self 6).head = some self ∧ (Instr.track self 6).codeAndParams = some (1, [6]) ∧ (Instr.track self 6).wf = true
      ∧ live.isOwn self.origin = true)
    ∧ ((Instr.protectSet asker 7 1 1 .run).head = some asker
      ∧ (Instr.protectSet asker 7 1 1 .run).codeAndParams = some (28, [7, 1, 1])
      ∧ (Instr.protectSet asker 7 1 1 .run).wf = true ∧ State.reset.isOwn asker.origin = false
      ∧ State.reset.loading = true) := by decide

theorem witness_StrandRequestOffTheMapRefused :
    live.answers asker ∧ (∀ k, ¬ live.names 7 k) ∧ (∀ k, ¬ live.names 8 k)
      ∧ ∀ k, ¬ ({ live with working := defaultImage } : State).names 0 k := by decide

theorem witness_TrackAndUntrackMoveTheStrand :
    live.answers asker ∧ (live.names 6 6 ∧ (live.ctx 6).state = .passive) ∧ (live.names 0 0 ∧ (live.ctx 0).state ≠ .passive)
      ∧ (live.names 1 1 ∧ (live.ctx 1).state = .tracking) ∧ (live.names 6 6 ∧ (live.ctx 6).state ≠ .tracking) := by decide

theorem witness_StartBeginsTheRun :
    live.answers asker ∧ live.change = .clear ∧ live.limits = some limits3 ∧ (9 : Word).toNat = (9 : ProfileId).val
      ∧ (live.working.profile 9).valid = true ∧ live.plantIn.dip = false
      ∧ (live.names 1 1 ∧ (live.strand 1).input.breakout = false ∧ (live.ctx 1).state = .tracking
        ∧ (live.strand 1).observed = some ⟨350, ⟨1, 2, 3, 4⟩, false⟩)
      ∧ (live.names 6 6 ∧ (live.strand 6).input.breakout = false ∧ (live.ctx 6).state = .passive
        ∧ (live.strand 6).input.fb.loss = .valid ∧ (live.strand 6).input.feedback = some 0) := by decide

theorem witness_StartRefusalsInOrder :
    (live.answers asker ∧ live.names 3 3 ∧ ¬ ((live.ctx 3).state = .passive ∨ (live.ctx 3).state = .tracking))
    ∧ (live.names 6 6 ∧ (live.ctx 6).state = .passive ∧ ({ live with change := .lowering } : State).change ≠ .clear)
    ∧ (unlimited.answers asker ∧ unlimited.names 6 6 ∧ (unlimited.ctx 6).state = .passive ∧ unlimited.change = .clear
      ∧ unlimited.limits = none)
    ∧ (live.change = .clear ∧ live.limits ≠ none
      ∧ (∀ p : ProfileId, p.val = (31 : Word).toNat → (live.working.profile p).valid = false)
      ∧ (∀ p : ProfileId, p.val = (32 : Word).toNat → (live.working.profile p).valid = false))
    ∧ ((∃ p : ProfileId, p.val = (9 : Word).toNat ∧ (live.working.profile p).valid = true)
      ∧ ({ live with plantIn := { live.plantIn with dip := true } } : State).plantIn.dip = true
      ∧ (live.upd 6 fun x => { x with input := { x.input with breakout := true } }).ctx 6 = {}
      ∧ ((live.upd 6 fun x => { x with input := { x.input with breakout := true } }).strand 6).input.breakout = true
      ∧ ((live.upd 1 fun x => { x with observed := none }).ctx 1).state = .tracking
      ∧ ((live.upd 1 fun x => { x with observed := none }).strand 1).observed = none
      ∧ ((live.upd 6 fun x => { x with input := {} }).ctx 6).state = .passive
      ∧ ((live.upd 6 fun x => { x with input := {} }).strand 6).input.fb.loss ≠ .valid) := by decide

theorem witness_HoldReasonRemoval :
    (live.ctx 0).state ≠ .holding ∧ (live.ctx 2).state = .holding
      ∧ (Reason.level ≠ .command ∧ (live.ctx 2).hold.has .level = false)
      ∧ (Reason.command ≠ .sensor ∧ (live.ctx 2).hold.has .command = true) := by decide

theorem witness_HoldAndReleaseMoveCommand :
    live.answers asker ∧ (live.names 5 5 ∧ (live.ctx 5).running = true) ∧ (live.names 0 0 ∧ (live.ctx 0).state = .ramping)
      ∧ (live.names 2 2 ∧ (live.ctx 2).state = .holding) ∧ (live.names 4 4 ∧ (live.ctx 4).running = false) := by decide

theorem witness_CommandHoldLasts :
    (Instr.handback asker 0).wf = true ∧ (live.ctx 2).running = true ∧ (live.ctx 2).hold.command = true
      ∧ exec (.watch asker 3) live = .next (after (.watch asker 3) live)
      ∧ ((after (.watch asker 3) live).ctx 2).running = true := ⟨by decide, by decide, by decide, rfl, by decide⟩

theorem witness_ClearTripAndReadContext :
    live.answers asker ∧ (live.names 3 3 ∧ (live.ctx 3).state = .tripped) ∧ (live.names 6 6 ∧ (live.ctx 6).state ≠ .tripped) := by
  decide

theorem witness_TripEntryByState :
    (live.ctx 2).realRun = true ∧ (live.ctx 4).state = .handback ∧ (live.ctx 5).shadowRun = true
      ∧ (live.ctx 6).state = .passive ∧ (live.ctx 1).state = .tracking ∧ (live.ctx 3).state = .tripped := by decide

theorem witness_ArbiterSettings :
    live.answers asker ∧ (writing.answers asker ∧ writing.op ≠ .idle) ∧ live.op = .idle ∧ 1 < (2 : Word).toNat
      ∧ (3 < ((#v[0, 0, 0, 0, 0, 0, 0, 4] : Vector Word 8)[(7 : StrandId)]).toNat)
      ∧ ((1 : Word).toNat ≤ 1 ∧ ∀ k : StrandId, ((#v[3, 3, 3, 3, 3, 3, 3, 3] : Vector Word 8)[k]).toNat ≤ 3)
      ∧ (live.names 0 0 ∧ (3 : Word).toNat = (3 : TableId).val ∧ (live.working.tables[(3 : TableId)]).valid = true)
      ∧ ((16 : Word) ≠ 255 ∧ ∀ n : TableId, (16 : Word).toNat = n.val → (live.working.tables[n]).valid = false)
      ∧ ((15 : Word) ≠ 255 ∧ ∀ n : TableId, (15 : Word).toNat = n.val → (live.working.tables[n]).valid = false) := by decide

theorem witness_DemandRisesWithSpeed :
    1804 ≤ 1805 ∧ live.working.limitsFlow = some limits3.flow ∧ limits3.flow.sound := by
  unfold LimitsFlow.sound; decide

/-- Strand 0 one step from the end of segment 1 with its dwell run; profile 9 with another next and end action. -/
def finishing (next : SegIndex) (endAction : EndAction) : State :=
  { live.updCtx 0 fun c => { c with acc := 115200, target := some 1800, dwell := 1999 } with
    working := { image9 with
      profiles := image9.profiles.set 9 { profile9 with endAction }
      segments := image9.segments.set 9 (segments9.set 1 { segments9[1] with next }) } }

/-- The same as a shadow run whose end action is HANDBACK. -/
def finishingShadow : State := (finishing .atEnd .handback).updCtx 0 fun c => { c with shadow := true }

theorem witness_PassMovesRunningStrandsOneStep :
    ((live.ctx 0).running = true ∧ (live.ctx 0).profile = some 9 ∧ (live.ctx 0).target = some 2400 ∧ (live.ctx 0).rate = some 18
      ∧ (live.ctx 0).segment = some (.seg 1))
    ∧ (∀ e, let s := finishing (.seg 2) e; (s.ctx 0).state = .ramping ∧ (s.ctx 0).enrolled = false
      ∧ (s.ctx 0).segment = some (.seg 1) ∧ (s.ctx 0).acc = 1800 * 64
      ∧ (s.working.segment 9 1).minDwell ≤ min ((s.ctx 0).dwell + 1) 65535 ∧ (s.working.segment 9 1).confirm = false
      ∧ (s.working.segment 9 1).next = .seg 2)
    ∧ ((finishing .atEnd .stay).working.segment 9 1).next = .atEnd ∧ ((finishing .atEnd .stay).working.profile 9).endAction = .stay
    ∧ ((finishing .atEnd .handback).working.profile 9).endAction = .handback
    ∧ ((finishing .atEnd .handback).ctx 0).shadow = false
    ∧ (let s := finishingShadow;
      (s.ctx 0).running = true ∧ (s.ctx 0).shadow = true ∧ (s.ctx 0).target = some 1800 ∧ (s.ctx 0).acc = 1800 * 64
        ∧ (s.working.segment 9 1).next = .atEnd ∧ (s.working.profile 9).endAction = .handback) :=
  ⟨by decide, by rintro (_ | _) <;> decide, by decide, by decide, by decide, by decide, by decide⟩

/-- A completion comes to END with PROFILE_END and the profile number (R44). -/
theorem test_profile_end : (((finishing .atEnd .stay).updCtx 0 fun c => { c with dwell := 2000 }).completionTest 0).alarms.map
    (fun a => (a.kind, a.strand, a.detail)) = [(.profileEnd, some 0, 9)] := by decide

/-- The end action HANDBACK starts the blend at the speed and flows that were granted, without an alarm (R45, R133). -/
theorem test_end_action_handback :
    let s := ((finishing .atEnd .handback).updCtx 0 fun c => { c with dwell := 2000 }).completionTest 0
    (s.strand 0).blend = some { startSpeed := 1800, startFlows := ⟨256, 182, 100, 54⟩, k := 0, n := 50, claim := false }
      ∧ s.alarms = [] := by decide

/-- A shadow run ends with HANDBACK_DONE, detail 1 (R146). -/
theorem test_end_action_shadow : ((finishingShadow.updCtx 0 fun c => { c with dwell := 2000 }).completionTest 0).alarms.map
    (fun a => (a.kind, a.strand, a.detail)) = [(.handbackDone, some 0, 1)] := by decide

theorem witness_StarvedAndDeficitAlarms :
    (let s := live.updCtx 0 fun c => { c with starvedCount := 499 };
      (s.ctx 0).running = true ∧ (s.ctx 0).starvedCount + 1 = s.plant.starvationLimit)
    ∧ (let s := { live with deficit := 99, budget := 900 };
      s.budget < s.grantedTotal ∧ s.deficit + 1 = s.plant.deficitLimit) := by decide

/-- Strand 0 with an input record. -/
def sensing (r : StrandInput) : State := live.upd 0 fun x => { x with input := r }

theorem witness_InputsLoseAndClear :
    (let s := sensing { steady 0 with lvl := ⟨.valid, 9, 0⟩ };
      (s.strand 0).input.lvl.loss = .valid ∧ s.plant.lossWindow ≤ min ((s.strand 0).input.lvl.since + 1) 65535)
    ∧ (let s := sensing { steady 0 with fb := ⟨.valid, 9, 0⟩ };
      (s.strand 0).input.fb.loss = .valid ∧ s.plant.lossWindow ≤ min ((s.strand 0).input.fb.since + 1) 65535)
    ∧ (let s := { live with plantIn := { live.plantIn with inp := ⟨.valid, 9, 0⟩ } };
      s.plantIn.inp.loss = .valid ∧ s.plant.lossWindow ≤ min (s.plantIn.inp.since + 1) 65535)
    ∧ (let s := sensing { steady 0 with identical := 49 };
      (s.strand 0).input.lvl.loss = .valid ∧ s.plant.frozenCount ≤ min ((s.strand 0).input.identical + 1) 65535)
    ∧ (let s := sensing { steady 0 with lvl := ⟨.loss .frozen, 0, 4⟩, varied := true };
      (s.strand 0).input.lvl.loss = .loss .frozen ∧ s.plant.clearCount ≤ min ((s.strand 0).input.lvl.clearRun + 1) 255
        ∧ (s.strand 0).input.varied = true)
    ∧ (let s := sensing { steady 0 with fb := ⟨.loss .silent, 0, 4⟩ };
      (s.strand 0).input.fb.loss = .loss .silent ∧ s.plant.clearCount ≤ min ((s.strand 0).input.fb.clearRun + 1) 255)
    ∧ (let s := { live with plantIn := { live.plantIn with inp := ⟨.loss .silent, 0, 4⟩ } };
      s.plantIn.inp.loss = .loss .silent ∧ s.plant.clearCount ≤ min (s.plantIn.inp.clearRun + 1) 255) := by decide

theorem witness_SensorSampleTaken :
    live.frameUse (frame 2 22 [0, 1804, 1, 201]) = .slot (.sensor 0) ∧ live.loading = false
      ∧ (live.strand 0).input.seq ≠ some 201 ∧ (live.ctx 0).realRun = true ∧ ((1 : Word).getLsbD 0) = true
      ∧ (live.frameUse (frame 2 34 [0, 0, 0, 200]) = .slot (.sensor 6) ∧ (live.strand 6).input.seq = some 200
        ∧ (live.ctx 6).state = .passive)
      ∧ (live.frameUse (frame 2 32 [0, 0, 1, 201]) = .slot (.sensor 5) ∧ (live.ctx 5).running = true)
      ∧ (live.frameUse (frame 2 30 [0, 0, 1, 201]) = .slot (.sensor 4) ∧ (live.ctx 4).state = .handback)
      ∧ (live.frameUse (frame 2 28 [0, 0, 1, 201]) = .slot (.sensor 3) ∧ (live.ctx 3).state = .tripped)
      ∧ (live.frameUse (frame 2 24 [0, 0, 1, 201]) = .slot (.sensor 1) ∧ (live.ctx 1).state = .tracking
        ∧ (live.strand 1).input.seq ≠ some 201)
      ∧ ({ live with loading := true, stored := some image9 } : State).frameUse (frame 2 22 [0, 1804, 1, 201])
        = .slot (.sensor 0) := by decide

/-- What strand 0's record becomes by a sample of level w, as the statement on the level gate reads it. -/
def sampled (s : State) (w : Word) : StrandInput :=
  (s.strand 0).input.take s.plant
    { level := max (-1000) (min 1000 w.toInt), feedback := 1804, breakout := false, confirm := true, seq := 201 }

theorem witness_LevelGateHoldsAndReleases :
    (live.frameUse (frame 2 22 [150, 1804, 2, 201]) = .slot (.sensor 0) ∧ live.loading = false ∧ (live.ctx 0).running = true
      ∧ (live.ctx 0).profile = some 9 ∧ (live.strand 0).input.seq ≠ some 201 ∧ (2 : Word).getLsbD 0 = false
      ∧ (sampled live 150).lvl.loss = .valid ∧ (max (-1000) (min 1000 (150 : Word).toInt)).natAbs ≤ (live.working.profile 9).tripBand
      ∧ (live.working.profile 9).tripBand < (max (-1000) (min 1000 (151 : Word).toInt)).natAbs
      ∧ min 255 ((live.ctx 0).levelExcess + 1) < (live.working.profile 9).tripCount
      ∧ (live.working.profile 9).tripCount ≤ min 255 (2 + 1))
    ∧ (let s := sensing { steady 1804 with identical := 49 };
      s.frameUse (frame 2 22 [12, 1804, 2, 201]) = .slot (.sensor 0) ∧ (s.ctx 0).running = true ∧ (s.ctx 0).profile = some 9
        ∧ (s.strand 0).input.seq ≠ some 201 ∧ (sampled s 12).lvl.loss ≠ .valid) := by decide

theorem witness_LevelAndFollowTrips :
    (let s := live.updCtx 0 fun c => { c with levelExcess := 2 };
      (s.ctx 0).running = true ∧ (s.ctx 0).profile = some 9 ∧ (s.strand 0).input.lvl.loss = .valid
        ∧ (s.working.profile 9).tripCount ≤ min 255 ((s.ctx 0).levelExcess + 1))
    ∧ (let s := live.upd 0 fun x => { x with input := steady 1653, ctx := { x.ctx with followCount := 199 } };
      (s.ctx 0).realRun = true ∧ (s.strand 0).input.fb.loss = .valid ∧ (s.strand 0).input.feedback = some 1653
        ∧ (s.ctx 0).hold.dip = false ∧ 1653 + s.lim.speed.followBand < (s.ctx 0).acc / 64
        ∧ s.lim.speed.followCount ≤ min ((s.ctx 0).followCount + 1) 65535) := by decide

/-- A dip in progress. -/
def dipped : State :=
  { live.updCtx 0 Context.receiveDip with dip := .dipped, dipCount := 1499, plantIn := { live.plantIn with dip := true } }

theorem witness_PlantSampleTaken :
    (live.frameUse (frame 2 20 [88, 9, 0, 6]) = .slot .plant ∧ live.plantIn.seq ≠ some 6 ∧ live.plantIn.seq = some 5
      ∧ live.loading = false ∧ live.plantIn.inp.loss = .valid ∧ live.plantIn.dip = false ∧ live.change = .clear)
    ∧ (let s := { live with plantIn := { live.plantIn with inp := ⟨.loss .silent, 3, 3⟩ } };
      s.plantIn.inp.loss ≠ .valid ∧ ¬ s.plant.clearCount ≤ min 255 (s.plantIn.inp.clearRun + 1))
    ∧ (let s := { live with plantIn := { live.plantIn with inp := ⟨.loss .silent, 3, 4⟩ } };
      s.plantIn.inp.loss ≠ .valid ∧ s.plant.clearCount ≤ min 255 (s.plantIn.inp.clearRun + 1))
    ∧ (min (49 : Word).toNat 1000 < live.plant.swapThreshold ∧ live.plant.releaseThreshold ≤ min (150 : Word).toNat 1000
      ∧ ({ lowering with change := .atLow } : State).frameUse (frame 2 20 [49, 9, 0, 6]) = .slot .plant
      ∧ ({ lowering with change := .swap } : State).frameUse (frame 2 20 [150, 9, 0, 6]) = .slot .plant)
    ∧ (dipped.plantIn.dip = true ∧ dipped.change = .clear ∧ dipped.plantIn.inp.loss = .valid ∧ dipped.plantIn.seq ≠ some 6
      ∧ dipped.frameUse (frame 2 20 [88, 9, 0, 6]) = .slot .plant
      ∧ (∀ k, (dipped.ctx k).reseed = true → (dipped.ctx k).profile.isSome = true) ∧ (dipped.ctx 0).reseed = true) := by decide

theorem witness_ChangeBeginEnrollsTheRunners :
    (lowering.answers asker ∧ lowering.change ≠ .clear) ∧ (unlimited.answers asker ∧ unlimited.change = .clear
      ∧ unlimited.limits = none)
    ∧ (calm.answers asker ∧ calm.change = .clear ∧ calm.limits ≠ none ∧ ∀ k, (calm.ctx k).realRun = false)
    ∧ (live.answers asker ∧ live.change = .clear ∧ live.limits = some limits3 ∧ ∃ k, (live.ctx k).realRun = true) := by decide

theorem witness_ChangeReleases :
    lowering.answers asker ∧ lowering.change = .lowering ∧ (lowering.strand 0).mark.isSome = true
      ∧ ({ lowering with change := .atLow } : State).answers asker ∧ ({ lowering with change := .swap } : State).answers asker
      ∧ (live.answers asker ∧ live.change = .clear) := by decide

theorem witness_WindowsExpire :
    (let s := { lowering with loweringCount := 2999 };
      s.change = .lowering ∧ (strandIds.filter fun k => (s.strand k).mark.any fun m => decide (m < (s.ctx k).acc)) = [0]
        ∧ s.plant.loweringWindow ≤ min (s.loweringCount + 1) 65535)
    ∧ (let s := lowering.updCtx 0 fun c => { c with acc := 32000 };
      s.change = .lowering ∧ (strandIds.filter fun k => (s.strand k).mark.any fun m => decide (m < (s.ctx k).acc)) = [])
    ∧ min (2998 + 1) 65535 < lowering.plant.loweringWindow ∧ min (8998 + 1) 65535 < lowering.plant.swapWindow
    ∧ min (1498 + 1) 65535 < dipped.plant.dipWindow ∧ live.change = .clear ∧ live.dip = .normal
    ∧ (let s := { lowering with change := .swap, swapCount := 8999 };
      s.change = .swap ∧ s.plant.swapWindow ≤ min (s.swapCount + 1) 65535)
    ∧ (dipped.dip = .dipped ∧ dipped.plant.dipWindow ≤ min (dipped.dipCount + 1) 65535 ∧ (dipped.ctx 0).hold.dip = true) := by
  decide

theorem witness_SourceSelectAndFreeze :
    live.answers asker ∧ live.freeze = false ∧ live.op = .idle ∧ live.current = .localGen
      ∧ ({ live with freeze := true } : State).answers asker ∧ 2 < (3 : Word).toNat ∧ 1 < (2 : Word).toNat
      ∧ (writing.answers asker ∧ writing.freeze = false ∧ writing.op ≠ .idle)
      ∧ (2 : Word).toNat = Source.localGen.code ∧ (0 : Word).toNat = Source.line.code := by decide

theorem witness_SourceCancelClearsTheTarget :
    live.answers asker ∧ live.switchTo = none ∧ ({ live with switchTo := some .line, freeze := true } : State).answers asker := by
  decide

theorem witness_SetBeatPeriodRestartsTheSources :
    (writing.answers asker ∧ writing.op ≠ .idle) ∧ (live.answers asker ∧ live.op = .idle ∧ ∃ k, (live.ctx k).driving = true)
    ∧ (calm.answers asker ∧ calm.op = .idle ∧ (∀ k, (calm.ctx k).driving = false) ∧ calm.switchTo = none)
    ∧ (3 : Word).toNat < 4 ∧ 40 < (41 : Word).toNat ∧ 4 ≤ (4 : Word).toNat ∧ (40 : Word).toNat ≤ 40 := by decide

theorem witness_FailClearEndsTheBeatHolds :
    live.answers asker ∧ live.current = .localGen ∧ live.fail = false ∧ ({ live with fail := true } : State).answers asker
      ∧ ({ live with current := .pulse } : State).answers asker := by decide

theorem witness_LockMonitorTakesABeat :
    (7 * 1000 * 10 ≤ 8 * (108750 - 100000) ∧ 8 * (108750 - 100000) ≤ 9 * 1000 * 10)
      ∧ (7 * 1000 * 10 ≤ 8 * (111250 - 100000) ∧ 8 * (111250 - 100000) ≤ 9 * 1000 * 10)
      ∧ ¬ (7 * 1000 * 10 ≤ 8 * (108749 - 100000) ∧ 8 * (108749 - 100000) ≤ 9 * 1000 * 10)
      ∧ ({ run := 6, ref := 100000, hasLast := true } : Monitor).run < 7 := by decide

theorem witness_ExternalBeatsReachTheirMonitor :
    (live.frameUse (frame 1 0 []) = .beat ∧ live.loading = false ∧ live.current ≠ .line ∧ live.switchTo ≠ some .line
      ∧ live.current ≠ .pulse ∧ live.switchTo ≠ some .pulse)
    ∧ (({ live with loading := true } : State).frameUse (frame 1 0 []) = .beat)
    ∧ (let s := { live with current := .line };
      s.frameUse (frame 1 0 []) = .beat ∧ s.loading = false)
    ∧ ({ live with current := .pulse } : State).loading = false
    ∧ (let s := { live with switchTo := some .line, lineMon := { run := 7, ref := 100000, hasLast := true } };
      (s.lineMon.beat s.period 111251).locked = false ∧ s.lineMon.locked = false
        ∧ (s.lineMon.beat s.period 111250).locked = true ∧ s.current ≠ .line) := by decide

theorem witness_LocalBeatsAndSwitches :
    (live.localNext = some 10000 ∧ live.current = .localGen)
    ∧ (let s := { live with current := .line, switchTo := some .localGen };
      s.localNext = some 10000 ∧ s.current ≠ .localGen)
    ∧ (let s := { live with current := .line };
      s.localNext = some 10000 ∧ s.current ≠ .localGen ∧ s.switchTo ≠ some .localGen)
    ∧ (let s := { live with
        switchTo := some .line, fail := true, lineMon := { locked := true, run := 8, ref := 100000, hasLast := true } }
      s.loading = false ∧ s.current ≠ .line ∧ s.lineMon.locked = true ∧ (s.lineMon.beat s.period 111250).locked = true
        ∧ s.frameUse (frame 1 0 []) = .beat)
    ∧ (let s := { live with
        switchTo := some .pulse, pulseMon := { locked := true, run := 8, ref := 100000, hasLast := true } }
      s.loading = false ∧ s.current ≠ .pulse ∧ s.pulseMon.locked = true ∧ (s.pulseMon.beat s.period 108750).locked = true) := by
  decide

theorem witness_SilentSourceFailsOver :
    live.loading = false ∧ live.lineMon.silent = false ∧ live.current ≠ .line ∧ live.pulseMon.silent = false
      ∧ live.current ≠ .pulse ∧ ({ live with current := .line } : State).loading = false
      ∧ ({ live with current := .pulse } : State).loading = false := by decide

/-- The same part two blend steps before the end. -/
def blending : State := live.upd 4 fun x => { x with blend := x.blend.map fun b => { b with k := 6 } }

theorem witness_HandbackAndBlendEnd :
    live.answers asker ∧ (live.names 1 1 ∧ (live.ctx 1).running = false)
      ∧ (lowering.answers asker ∧ lowering.names 0 0 ∧ (lowering.ctx 0).running = true ∧ (lowering.ctx 0).enrolled = true)
      ∧ (live.names 0 0 ∧ (live.ctx 0).realRun = true ∧ (live.ctx 0).enrolled = false)
      ∧ (live.names 5 5 ∧ (live.ctx 5).shadowRun = true ∧ (live.ctx 5).enrolled = false)
      ∧ ((live.ctx 4).state = .handback ∧ (live.strand 4).blend = some ⟨1500, ⟨220, 155, 85, 45⟩, 7, 8, true⟩ ∧ 7 + 1 = 8)
      ∧ ((blending.ctx 4).state = .handback ∧ (blending.strand 4).blend = some ⟨1500, ⟨220, 155, 85, 45⟩, 6, 8, true⟩ ∧ 6 + 1 ≠ 8)
      ∧ (0 < 1 ∧ 1 ≤ 1) := by decide

theorem witness_ClaimsByState :
    live.loading = false ∧ (1 : Word).getLsbD 0 = true
      ∧ (live.frameUse (frame 2 23 [1, 2, 3, 4, 5, 1]) = .slot (.actuator 0) ∧ (live.ctx 0).realRun = true)
      ∧ (live.frameUse (frame 2 31 [1, 2, 3, 4, 5, 1]) = .slot (.actuator 4) ∧ (live.ctx 4).state = .handback
        ∧ (live.strand 4).blend = some ⟨1500, ⟨220, 155, 85, 45⟩, 7, 8, true⟩)
      ∧ (live.frameUse (frame 2 29 [1, 2, 3, 4, 5, 1]) = .slot (.actuator 3) ∧ (live.ctx 3).state = .tripped)
      ∧ (live.frameUse (frame 2 25 [1, 2, 3, 4, 5, 1]) = .slot (.actuator 1) ∧ (live.ctx 1).driving = false)
      ∧ (live.frameUse (frame 2 33 [1, 2, 3, 4, 5, 1]) = .slot (.actuator 5) ∧ (live.ctx 5).driving = false)
      ∧ (live.frameUse (frame 2 35 [1, 2, 3, 4, 5, 1]) = .slot (.actuator 6) ∧ (live.ctx 6).driving = false) := by decide

theorem witness_MasterFramesByState :
    live.loading = false ∧ (0 : Word).getLsbD 0 = false
      ∧ (live.frameUse (frame 2 23 [1, 2, 3, 4, 5, 0]) = .slot (.actuator 0) ∧ (live.ctx 0).driving = true)
      ∧ (live.frameUse (frame 2 25 [1, 2, 3, 4, 5, 0]) = .slot (.actuator 1) ∧ (live.ctx 1).driving = false
        ∧ (live.strand 1).claimDue = true)
      ∧ (live.frameUse (frame 2 35 [1, 2, 3, 4, 5, 0]) = .slot (.actuator 6) ∧ (live.ctx 6).driving = false)
      ∧ (let s := { live with loading := true, stored := some image9 };
        s.frameUse (frame 2 23 [1, 2, 3, 4, 5, 0]) = .slot (.actuator 0)) := by decide

theorem witness_StatusOriginationAndRetirement :
    live.frameUse (frame 2 21 (List.replicate 16 0)) = .slot .status
      ∧ ({ live with loading := true, stored := some image9 } : State).frameUse (frame 2 21 (List.replicate 16 0)) = .slot .status
      ∧ (live.config.slotBase = some 20 ∧ (live.ctx 2).driving = true ∧ (live.strand 2).silence = 1)
      ∧ ({ live with retired := some ⟨9, 3⟩ } : State).retired = some ⟨9, 3⟩ := by decide

theorem witness_SetNodeRetiresTheOldNumber :
    live.answers asker ∧ live.op = .idle ∧ (writing.answers asker ∧ writing.op ≠ .idle)
      ∧ live.working.config.node.toNat = 254 ∧ (0 : Word).toNat = 0 ∧ 254 < (255 : Word).toNat
      ∧ (1 ≤ (1 : Word).toNat ∧ (1 : Word).toNat ≤ 254 ∧ (1 : Word).toNat ≠ live.working.config.node.toNat) := by decide

theorem witness_SlotBaseAndMaskMoveTheMap :
    (writing.answers asker ∧ writing.op ≠ .idle)
    ∧ (live.answers asker ∧ live.op = .idle ∧ ∃ k, (live.ctx k).state ≠ .passive)
    ∧ (calm.answers asker ∧ calm.op = .idle ∧ (∀ k, (calm.ctx k).state = .passive) ∧ 238 < (239 : Word).toNat
      ∧ (238 : Word).toNat ≤ 238)
    ∧ (255 < (256 : Word).toNat ∧ (254 : Word).toNat ≤ 255
      ∧ (∃ k : StrandId, live.working.config.inMask k = true ∧ (254 : Word).getLsbD k = false ∧ (live.ctx k).state ≠ .passive)
      ∧ ∀ k : StrandId, live.working.config.inMask k = true → (0xBF : Word).getLsbD k = false → (live.ctx k).state = .passive) := by
  decide

theorem witness_UnknownRequestsAreCounted :
    live.frameUse (frame 3 254 []) = .request ∧ live.frameUse (frame 3 254 [1]) = .request
      ∧ live.frameUse (frame 3 254 [33, 5]) = .request ∧ live.frameUse (frame 3 254 [0, 5]) = .request
      ∧ (live.frameUse (frame 3 254 [32, 5]) = .request ∧ (32 : Word).toNat ∈ [1, 2, 4, 5, 6, 7, 16, 18, 19, 20, 21, 30, 31, 32]
        ∧ ([] : List Word).length ≠ 1)
      ∧ (live.frameUse (frame 3 254 [25, 5, 1]) = .request ∧ (25 : Word).toNat = 25 ∧ ([1] : List Word).length < 2)
      ∧ (live.isOwn asker.origin = false ∧ (List.replicate 11 (0 : Word)).length ≠ 12 ∧ (List.replicate 6 (0 : Word)).length ≠ 7)
      ∧ (live.frameUse (frame 3 254 (25 :: 9 :: 4 :: 1 :: List.replicate 11 0)) = .request ∧ live.latchOpen = false
        ∧ editing.latchOpen = true ∧ editing.op = .idle ∧ writing.op ≠ .idle ∧ 4 < (5 : Word).toNat)
      ∧ ({ live with loading := true, stored := some image9 } : State).frameUse (frame 3 254 [25, 9, 5, 0]) = .request := by decide

theorem witness_FramesThatAreNotUsed :
    Frame.ofWire [1, 2, 3] = none ∧ (frame 2 23 [5]).payload.length ≤ 16 ∧ live.isOwn 254 = true ∧ live.isOwn 7 = false
      ∧ ((frame 4 0 []).kind ≠ 1 ∧ (frame 4 0 []).kind ≠ 2 ∧ (frame 4 0 []).kind ≠ 3)
      ∧ ((frame 3 253 []).kind = 3 ∧ (frame 3 253 []).low ≠ live.config.node)
      ∧ ((frame 2 36 [5]).kind = 2 ∧ live.config.slotUse 36 = none) ∧ live.config.slotUse 19 = none
      ∧ (live.config.slotUse 35 = some (.actuator 6) ∧ (frame 2 35 [5]).payload.length ≠ SlotUse.length (.actuator 6)) := by decide

theorem witness_FramesReadBackFromTheLine :
    (frame 4 7 (List.replicate 16 5)).payload.length ≤ 16 ∧ Frame.ofWire [0x0100, 0x0700, 0x6BE3] = some (frame 1 0 []) := by decide

theorem witness_RequestsReadBackFromTheirPayload :
    ((Instr.watch asker 255).wf = true ∧ (Instr.watch asker 255).head = some asker
      ∧ (Instr.watch asker 255).requestPayload = some [32, 0x1234, 255])
    ∧ decodeRequest 7 5 .run [16, 0x1234, 10] = .command (.setBeatPeriod asker 10 5) := by decide

/-- The same part with a stored image under protect lock. -/
def guarded : State := { editing with stored := some { image9 with config := { image9.config with protectLock := true } } }

theorem witness_LatchAndProtection :
    (live.answers asker ∧ live.op = .idle ∧ live.latchOpen = false) ∧ (writing.answers asker ∧ writing.op ≠ .idle
      ∧ writing.latchOpen = true)
    ∧ (guarded.answers asker ∧ guarded.latchOpen = true ∧ guarded.op = .idle ∧ guarded.incomplete = false
      ∧ guarded.stored = some { image9 with config := { image9.config with protectLock := true } })
    ∧ (editing.answers asker ∧ editing.latchOpen = true ∧ editing.op = .idle ∧ editing.stored = none)
    ∧ 7 < (8 : Word).toNat ∧ 1 < (2 : Word).toNat ∧ (7 : Word).toNat ≤ 7 ∧ (1 : Word).toNat ≤ 1 := by decide

theorem witness_TableWritesReplaceRecords :
    (editing.answers asker ∧ editing.latchOpen = true ∧ editing.op = .idle)
    ∧ ((255 : Word).toNat = 8 * (31 : ProfileId).val + (7 : Fin 8).val
      ∧ rangeProtects editing.working.config.rangeCode 31 = false ∧ editing.profileInUse 31 = false
      ∧ readSegment [1, 8000, 4095, 65535, 1, 255, 8] = some ⟨true, 8000, 4095, 65535, true, none, .atEnd⟩
      ∧ (editing.working.profile 31).valid = false)
    ∧ ((31 : Word).toNat = (31 : ProfileId).val
      ∧ readProfile [0, 7, 15, 1000, 1000, 1000, 255, 7, 1, 65535] = some ⟨false, 7, 15, 1000, 1000, 1000, 255, 7, .handback, 65535⟩
      ∧ profileOk editing.working.tables editing.working.segments[(31 : ProfileId)]
        ⟨false, 7, 15, 1000, 1000, 1000, 255, 7, .handback, 65535⟩ = true)
    ∧ ((63 : Word).toNat = 4 * (15 : TableId).val + (3 : Fin 4).val ∧ editing.working.config.coolingFlag = false
      ∧ editing.tableInUse 15 = false ∧ readCooling [1, 2000, 4000, 4000, 4000] = some (true, ⟨2000, 4000, 4000, 4000⟩))
    ∧ (readPlant0 editing.working.plant [8000, 4095, 1, 1000, 1000, 1, 1, 1, 1, 1000]).isSome = true
    ∧ (readPlant1 editing.working.tables editing.working.plant [1, 1, 2, 0, 3]).isSome = true
    ∧ (let s := { calm with latchOpen := true };
      s.answers asker ∧ s.op = .idle ∧ s.limitsInUse = false ∧ s.oneTime = none)
    ∧ readLimits0 [100, 4095, 65535, 8000, 1] = some ⟨100, 4095, 65535, 8000, 1⟩
    ∧ (readLimits1 [0, 0, 0, 0, 4000, 4000, 4000, 4000, 4000, 0, 0, 0]).isSome = true := by decide

theorem witness_TableWriteRefusalsInOrder :
    (live.answers asker ∧ live.latchOpen = false ∧ tableLengthOk 0 255 (List.replicate 7 0) = true)
    ∧ (writing.answers asker ∧ writing.latchOpen = true ∧ writing.op ≠ .idle ∧ tableLengthOk 3 1 (List.replicate 5 0) = true)
    ∧ (editing.answers asker ∧ editing.latchOpen = true ∧ editing.op = .idle
      ∧ (79 : Word).toNat / 8 = (9 : ProfileId).val ∧ rangeProtects editing.working.config.rangeCode 9 = false
      ∧ editing.profileInUse 9 = true ∧ (15 : Word).toNat / 4 = (3 : TableId).val
      ∧ editing.working.config.coolingFlag = false ∧ editing.tableInUse 3 = true ∧ (1 : Word).toNat ≤ 1
      ∧ editing.limitsInUse = true ∧ tableLengthOk 4 1 (List.replicate 12 0) = true)
    ∧ (rangeProtects 2 15 = true ∧ rangeProtects 2 16 = false)
    ∧ (let s := { calm with latchOpen := true, oneTime := some limits3 };
      s.answers asker ∧ s.op = .idle ∧ s.limitsInUse = false ∧ s.oneTime ≠ none ∧ 1 < (2 : Word).toNat) := by decide

/-- RANGE at the boundaries: the first index past each kind, a field one above its range, a used segment of a valid profile taken
out of use, and a named table made not valid. -/
theorem witness_TableWriteRange :
    (editing.answers asker ∧ editing.latchOpen = true ∧ editing.op = .idle)
    ∧ (255 < (256 : Word).toNat ∧ 31 < (32 : Word).toNat ∧ 63 < (64 : Word).toNat ∧ 1 < (2 : Word).toNat)
    ∧ ((255 : Word).toNat = 8 * (31 : ProfileId).val + (7 : Fin 8).val ∧ rangeProtects editing.working.config.rangeCode 31 = false
      ∧ editing.profileInUse 31 = false ∧ readSegment [1, 8001, 4095, 65535, 1, 255, 8] = none)
    ∧ (let s := { calm with latchOpen := true };
      s.answers asker ∧ s.op = .idle ∧ s.profileInUse 9 = false ∧ s.oneTime = none ∧ s.limitsInUse = false
        ∧ (73 : Word).toNat = 8 * (9 : ProfileId).val + (1 : Fin 8).val ∧ (s.working.profile 9).valid = true
        ∧ readSegment [0, 0, 1, 0, 0, 255, 8] = some defaultSegment
        ∧ profileOk s.working.tables ((s.working.segments[(9 : ProfileId)]).set 1 defaultSegment) (s.working.profile 9) = false
        ∧ readProfile [1, 3, 3, 80, 40, 150, 3, 1, 0, 0] = some { profile9 with first := 3, tag := 0 }
        ∧ profileOk s.working.tables s.working.segments[(9 : ProfileId)] { profile9 with first := 3, tag := 0 } = false
        ∧ (15 : Word).toNat / 4 = (3 : TableId).val ∧ s.working.config.coolingFlag = false ∧ s.tableInUse 3 = false
        ∧ readCooling [0, 0, 0, 0, 4000] = some (false, defaultZone) ∧ (s.working.tables[(3 : TableId)]).valid = true
        ∧ s.tableNamed 3 = true)
    ∧ readProfile [0, 7, 15, 1000, 1000, 1000, 256, 7, 1, 65535] = none ∧ readCooling [1, 2001, 0, 0, 0] = none
    ∧ readPlant0 editing.working.plant [8000, 4095, 1, 1000, 999, 1, 1, 1, 1, 1000] = none
    ∧ readPlant1 editing.working.tables editing.working.plant [1, 1, 2, 0, 4] = none
    ∧ readLimits0 [99, 4095, 65535, 8000, 1] = none
    ∧ readLimits1 [0, 0, 0, 0, 4000, 4000, 4000, 4001, 0, 0, 0, 0] = none := by decide

/-- RANGE for a used segment of a valid profile taken out of use (R33). -/
theorem test_write_segment_range : (after (.tableWriteSegment asker 73 [0, 0, 1, 0, 0, 255, 8]) { calm with latchOpen := true }).down
    = [(replyFrame 254 25 asker .range []).wire] := by decide

theorem witness_TableReadReplies :
    live.answers asker ∧ live.readTable 4 1 = .ok [0, 0, 0, 0, 800, 600, 400, 250, 120, 80, 40, 20]
      ∧ (4 < (5 : Word).toNat ∧ 255 < (256 : Word).toNat ∧ 31 < (32 : Word).toNat ∧ 63 < (64 : Word).toNat ∧ 1 < (2 : Word).toNat)
      ∧ (unlimited.answers asker ∧ unlimited.working.limitsFlow = none)
      ∧ (255 : Word).toNat = 8 * (31 : ProfileId).val + (7 : Fin 8).val ∧ (31 : Word).toNat = (31 : ProfileId).val
      ∧ (63 : Word).toNat = 4 * (15 : TableId).val + (3 : Fin 4).val
      ∧ live.working.limitsSpeed = some limits3.speed ∧ live.working.limitsFlow = some limits3.flow := by decide

/-- The ten words of a profile record in their order (R30). -/
theorem test_read_profile : live.readTable 1 9 = .ok [1, 0, 3, 80, 40, 150, 3, 1, 0, 2409] := by decide

/-- The second zone of cooling table 3 under the table's valid flag (R48). -/
theorem test_read_cooling : live.readTable 2 13 = .ok [1, 90, 20, 40, 500] := by decide

theorem witness_WriteThenReadReturnsTheFields :
    (after (.tableWriteLimits asker 0 [100, 4095, 65535, 8000, 1]) { calm with latchOpen := true }).answers asker
    ∧ writeLimitsBody 0 [100, 4095, 65535, 8000, 1] { calm with latchOpen := true }
      = .ok ({ calm with latchOpen := true, working := { image9 with limitsSpeed := some ⟨100, 4095, 65535, 8000, 1⟩ } }, [])
    ∧ writeSegmentBody 255 [1, 8000, 4095, 65535, 1, 255, 8] editing
      = .ok ({ editing with working := { image9 with
          segments := image9.segments.set 31 ((image9.segments[31]).set 7 ⟨true, 8000, 4095, 65535, true, none, .atEnd⟩) } }, []) :=
  ⟨by decide, rfl, rfl⟩

theorem witness_StoreOperationsBeginAndEnd :
    (live.answers asker ∧ live.latchOpen = false) ∧ (writing.answers asker ∧ writing.latchOpen = true ∧ writing.op ≠ .idle)
    ∧ (editing.answers asker ∧ editing.latchOpen = true ∧ editing.op = .idle ∧ editing.oneTime = none
      ∧ editing.limits = some limits3)
    ∧ (burned.answers asker ∧ burned.latchOpen = true ∧ burned.op = .idle ∧ burned.oneTime = some limits3)
    ∧ (let s := { unlimited with latchOpen := true };
      s.answers asker ∧ s.op = .idle ∧ s.oneTime = none ∧ s.limits = none)
    ∧ writing.op = .commit image9
    ∧ (let s := { editing with op := .lock limits3 };
      s.answers asker ∧ s.op = .lock limits3) := by decide

theorem witness_WarmResetValues : live.answers asker := by decide

theorem witness_PowerOnAndStartUpLoad :
    State.reset.loading = true ∧ ({ State.reset with incomplete := true } : State).loading = true := by decide

theorem witness_AlarmPopCountersAndWatch :
    live.answers asker ∧ (0 : Word).toNat = 0 ∧ 8 < (9 : Word).toNat ∧ (1 ≤ (8 : Word).toNat ∧ (8 : Word).toNat ≤ 8)
      ∧ 3 < (4 : Word).toNat ∧ (7 : Word).toNat = (7 : StrandId).val ∧ (7 < (8 : Word).toNat ∧ (8 : Word) ≠ 255) := by decide

/-! ## A state that meets all the soundness conditions, with a command waiting -/

/-- The part of `live` with the shadow strand's grant seeded and WATCH waiting. -/
def whole : State :=
  { live.upd 5 fun x => { x with shadowGrant := live.grantFor 100 3 } with
    pending := [.watch asker 3] }

theorem whole_grants : live.grantFor 1804 3 = (live.strand 0).grant ∧ live.grantFor 400 3 = (live.strand 2).grant := by decide

theorem whole_contexts (k : StrandId) : (whole.ctx k).sound :=
  match k with
  | 0 => And.intro rfl (by unfold Context.runSound; decide)
  | 1 => Eq.refl (whole.ctx 1)
  | 2 => And.intro (by decide) (by unfold Context.runSound; decide)
  | 3 => And.intro rfl rfl
  | 4 => Eq.refl (whole.ctx 4)
  | 5 => And.intro rfl (by unfold Context.runSound; decide)
  | 6 => Eq.refl (whole.ctx 6)
  | 7 => Eq.refl (whole.ctx 7)

theorem whole_strands : whole.strandsSound := by
  intro k
  refine ⟨whole_contexts k, ?_⟩
  unfold Strand.grantsSound
  revert k
  decide
theorem whole_bounds : whole.alarmsSound ∧ whole.counters.sound := by
  unfold State.alarmsSound Counters.sound; decide
theorem whole_units : whole.changeSound ∧ whole.dipSound ∧ whole.beatSound ∧ whole.loadSound ∧ whole.commitSound ∧ whole.mapSound := by
  refine ⟨by unfold State.changeSound; decide, by unfold State.dipSound; decide, ⟨by decide, nofun⟩, nofun, nofun, ?_⟩
  unfold State.mapSound; decide
theorem whole_holds : whole.holdsSound := by unfold State.holdsSound; decide
theorem whole_images : whole.imagesSound := by
  have plant : whole.working.plant.sound := by unfold Plant.sound; decide
  have config : whole.working.config.sound := ⟨by decide, by decide, by rintro b ⟨⟩; decide, by decide, by decide, by decide, by decide⟩
  have speed : limits3.speed.sound := by unfold LimitsSpeed.sound; decide
  have flow : limits3.flow.sound := by unfold LimitsFlow.sound; decide
  refine ⟨⟨by decide, nofun, plant, config, ?_, ?_⟩, nofun, nofun, nofun, nofun, fun k t h => ?_⟩
  · rintro l ⟨⟩; exact speed
  · rintro l ⟨⟩; exact flow
  exact absurd h (by revert k t; decide)
theorem whole_runs : whole.runsSound := by unfold State.runsSound; decide
theorem whole_limits : whole.limitsSound ∧ whole.speedsSound := by
  unfold State.limitsSound State.speedsSound
  have low : ∀ k, (whole.ctx k).acc ≤ whole.lim.speed.maxSpeed * 64
      ∧ (whole.ctx k).target.all (fun v => decide (v ≤ whole.lim.speed.maxSpeed)) = true ∧ (whole.strand k).mark = none := by decide
  refine ⟨by decide, fun k _ => ⟨(low k).1, fun v h => ?_, fun m h => ?_⟩⟩
  · have := (low k).2.1
    rw [h] at this
    exact of_decide_eq_true this
  · rw [(low k).2.2] at h
    cases h

theorem whole_flows : whole.flowsSound := by
  intro k
  have real : ∀ k, (whole.ctx k).realRun = true → (whole.strand k).grant = whole.grantFor (whole.strand k).grant.speed 3 := by decide
  have shadow : ∀ k, (whole.ctx k).shadowRun = true →
      (whole.strand k).shadowGrant = whole.grantFor (whole.strand k).shadowGrant.speed 3 := by decide
  exact ⟨fun h => ⟨3, real k h⟩, fun h => ⟨3, shadow k h⟩⟩

theorem whole_steps : step whole = .next (after (.watch asker 3) { whole with pending := [] })
    ∧ (after (.watch asker 3) { whole with pending := [] }).watch = some 3 := ⟨rfl, by decide⟩

theorem witness_PassKeepsToTheBudget : whole.strandsSound ∧ whole.flowsSound ∧ whole.budget < whole.grantedTotal
    ∧ (whole.working.config.mode = .rotating ∧ whole.arbiterOrder = [] ++ 0 :: [1, 2, 3, 4, 5, 6, 7]
      ∧ whole.arbiterOrder = [0, 1, 2, 3, 4] ++ 5 :: [6, 7])
    ∧ ((whole.ctx 0).realRun = true ∧ (whole.strand 0).grant.demand < (whole.askOf 0).grant.demand
      ∧ (whole.strand 0).grant.speed ≤ (whole.askOf 0).grant.speed)
    ∧ ((whole.ctx 2).realRun = true ∧ ¬ (whole.strand 2).grant.demand < (whole.askOf 2).grant.demand)
    ∧ ((descending.strand 0).grant.demand < (descending.askOf 0).grant.demand ∧ (descending.strand 0).grant.table = some 3
      ∧ (descending.askOf 0).grant.speed < (descending.strand 0).grant.speed)
    ∧ ((whole.ctx 5).shadowRun = true ∧ (whole.ctx 1).running = false) :=
  ⟨whole_strands, whole_flows, by decide⟩

/-- A pass without budget starves strands 0 and 5, in their order, when their counts reach 500 (R70). -/
theorem test_newly_starved :
    let s : State := { (live.updCtx 5 fun c => { c with starvedCount := 499 }).updCtx 0 fun c => { c with starvedCount := 499 } with
      budget := 1038 }
    State.newlyStarved s.phases.answers s.phases.state = [(0, false), (5, true)] := by decide

theorem witness_QueueAndCountersStayBounded : whole.alarmsSound ∧ whole.counters.sound ∧ ∃ t, step whole = .next t :=
  ⟨whole_bounds.1, whole_bounds.2, _, whole_steps.1⟩

theorem witness_StrandRecordsStaySound : whole.strandsSound ∧ ∃ t, step whole = .next t := ⟨whole_strands, _, whole_steps.1⟩

theorem witness_EnrolledSetFollowsTheCoordinator : whole.strandsSound ∧ whole.changeSound ∧ ∃ t, step whole = .next t :=
  ⟨whole_strands, whole_units.1, _, whole_steps.1⟩

theorem witness_UnitsStayConsistent : (whole.dipSound ∧ whole.beatSound ∧ whole.loadSound ∧ whole.commitSound ∧ whole.mapSound)
    ∧ ∃ t, step whole = .next t := ⟨whole_units.2, _, whole_steps.1⟩

theorem witness_HoldReasonsFollowTheirConditions : whole.strandsSound ∧ whole.changeSound ∧ whole.dipSound ∧ whole.mapSound
    ∧ whole.holdsSound ∧ ∃ t, step whole = .next t :=
  ⟨whole_strands, whole_units.1, whole_units.2.1, whole_units.2.2.2.2.2, whole_holds, _, whole_steps.1⟩

theorem witness_RunsStayInUsedSegments : whole.loadSound ∧ whole.imagesSound ∧ whole.runsSound ∧ ∃ t, step whole = .next t :=
  ⟨whole_units.2.2.2.1, whole_images, whole_runs, _, whole_steps.1⟩

theorem witness_SpeedsAndGrantsStayWithinLimits : whole.strandsSound ∧ whole.loadSound ∧ whole.limitsSound ∧ whole.speedsSound
    ∧ whole.flowsSound ∧ ∃ t, step whole = .next t :=
  ⟨whole_strands, whole_units.2.2.2.1, whole_limits.1, whole_limits.2, whole_flows, _, whole_steps.1⟩
end Sys2Proof.Tests
end

/-! Laws of strand moves: the atomic changes that beats, samples, trips and most requests make to a strand's records, each
with what the code has checked before it makes it; and `State.moves`, what such an event leaves alone beside the strands. -/

namespace Sys2Proof.Machine

/-! ## What an event of the running part leaves alone -/

/-- A part that holds nothing but an image: the tables as the running rules read them. -/
def Image.alone (i : Image) : State := { State.reset with working := i }

theorem State.grantFor_alone (s : State) : s.working.alone.grantFor = s.grantFor := rfl

/-- The part with everything blanked that a beat, a sample or an answered request may change beside the units of R105, R115,
R130 and R159: what is left is the dip state and flag, whether the plant input is NODATA, the beat unit's sources and flags, the
start-up load, the images and the store operation. -/
def State.frame (s : State) : State :=
  { s with
    pending := [], down := [], key := .run, now := 0, fresh := 0, strands := Vector.replicate 8 {}, retired := none
    plantIn := { dip := s.plantIn.dip, inp := { loss := if s.plantIn.inp.loss = .nodata then .nodata else .valid } }
    pointer := 0, budget := 0, deficit := 0, change := .clear, loweringCount := 0, swapCount := 0, dipCount := 0
    freeze := false, beats := 0, lineMon := {}, pulseMon := {}, alarms := [], counters := {}, watch := none }

@[simp] theorem State.frame_upd (s : State) (k : StrandId) (f : Strand → Strand) : (s.upd k f).frame = s.frame := rfl
@[simp] theorem State.frame_updCtx (s : State) (k : StrandId) (f : Context → Context) : (s.updCtx k f).frame = s.frame := rfl
@[simp] theorem State.frame_count (s : State) (f : Counters → Counters) : (s.count f).frame = s.frame := rfl
@[simp] theorem State.frame_send (s : State) (f : Frame) : (s.send f).frame = s.frame := rfl
@[simp] theorem State.frame_reply (s : State) (c : Word) (q : ReqHead) (r : Result) (d : List Word) :
    (s.reply c q r d).frame = s.frame := rfl
@[simp] theorem State.frame_atTime (s : State) (t : Nat) : (s.atTime t).frame = s.frame := rfl
@[simp] theorem State.frame_raise (s : State) (a : AlarmKind) (o : Option StrandId) (d : Nat) :
    (s.raise a o d).frame = s.frame := by
  unfold State.raise; split <;> rfl
@[simp] theorem State.frame_moveChange (s : State) (c : ChangeState) : (s.moveChange c).frame = s.frame :=
  State.frame_raise { s with change := c } _ _ _

theorem State.frame_of_near {s t : State} (h : s.near t) : t.frame = s.frame := by
  unfold State.near at h; rw [h]; rfl

/-- The start-up load, the sources, the images and the store operation are what the frame says. -/
theorem State.working_of_frame {s t : State} (h : t.frame = s.frame) : t.working = s.working := by
  have := congrArg State.working h; exact this
theorem State.loading_of_frame {s t : State} (h : t.frame = s.frame) : t.loading = s.loading := by
  have := congrArg State.loading h; exact this
theorem State.fail_of_frame {s t : State} (h : t.frame = s.frame) : t.fail = s.fail := by
  have := congrArg State.fail h; exact this

/-! ## Moves of a strand -/

/-- One change of a strand's records by an event other than START, TRACK, RELEASE, COOL_PIN and the resets, under the tables of
image i. Each constructor names the rule and carries what the model has checked. -/
inductive Strand.Move (i : Image) : Strand → Strand → Prop where
  /-- the input record changes (R75 to R79, R90) -/
  | input (x : Strand) (r : StrandInput) : Move i x { x with input := r }
  /-- a hold reason arrives for addition (R16) -/
  | add (x : Strand) (r : Reason) : Move i x { x with ctx := x.ctx.addReason r }
  /-- a hold reason other than COMMAND arrives for removal (R17) -/
  | remove (x : Strand) {r : Reason} (h : r ≠ .command) : Move i x { x with ctx := x.ctx.removeReason r }
  /-- the level excess count is zeroed (R86) -/
  | quiet (x : Strand) : Move i x { x with ctx := { x.ctx with levelExcess := 0 } }
  /-- the pending re-seed ends (R112) -/
  | reseeded (x : Strand) : Move i x { x with ctx := { x.ctx with reseed := false } }
  /-- counts and flags of a running strand change (R38, R41, R70, R86, R88, R107) -/
  | note (x : Strand) (c : Context) (h : x.ctx.running = true)
      (hc : c = { x.ctx with
        dwell := c.dwell, confirmSeen := c.confirmSeen, starved := c.starved, starvedCount := c.starvedCount
        levelExcess := c.levelExcess, followCount := c.followCount, reseed := c.reseed }) :
      Move i x { x with ctx := c }
  /-- the accumulator is lowered (R112) -/
  | lower (x : Strand) (a : Nat) (h : a ≤ x.ctx.acc) : Move i x { x with ctx := { x.ctx with acc := a } }
  /-- the accumulator takes a candidate, which is no further than the target of the step (R38) -/
  | advance (x : Strand) (a : Nat) (h : x.ctx.running = true)
      (ha : a ≤ x.ctx.acc ∨ (∃ v, x.ctx.target = some v ∧ a ≤ v * 64) ∨ ∃ m, x.mark = some m ∧ a ≤ m) :
      Move i x { x with ctx := { x.ctx with acc := a } }
  /-- target and rate are loaded again from the current segment (R37) -/
  | load (x : Strand) (p : ProfileId) (n : Fin 8) (hp : x.ctx.profile = some p) (hn : x.ctx.segment = some (.seg n)) :
      Move i x { x with ctx := i.alone.loadSegment (i.segment p n) x.ctx }
  /-- the re-entry segment or the next of the current segment is entered (R36, R37, R43, R112) -/
  | enter (x : Strand) (p : ProfileId) (n : Fin 8) (hp : x.ctx.profile = some p)
      (hn : n = (i.profile p).reentry ∨ ∃ m, x.ctx.segment = some (.seg m) ∧ (i.segment p m).next = .seg n) :
      Move i x { x with
        ctx := i.alone.loadSegment (i.segment p n) { x.ctx with segment := some (.seg n), dwell := 0, confirmSeen := false } }
  /-- the last segment completes (R44) -/
  | finish (x : Strand) (h : x.ctx.running = true) :
      Move i x { x with ctx := { x.ctx with segment := some .atEnd, dwell := 0, confirmSeen := false } }
  /-- a non-shadow running strand is enrolled, or an enrolled strand takes the change override again (R94, R95) -/
  | override (x : Strand) (h : x.ctx.realRun = true ∨ x.ctx.enrolled = true) :
      Move i x { x with
        mark := some (min x.ctx.acc (i.alone.changeSpeed * 64))
        ctx := { x.ctx with
          enrolled := true
          target := some (if i.alone.changeSpeed * 64 < x.ctx.acc then i.alone.changeSpeed else x.ctx.acc / 64)
          rate := some (min i.plant.changeRate i.alone.lim.speed.maxRate) } }
  /-- the entry of the enrolled set and the enrolled flag end (R100, R101) -/
  | unenroll (x : Strand) : Move i x { x with ctx := { x.ctx with enrolled := false }, mark := none }
  /-- entry into TRIPPED (R22) -/
  | trip (x : Strand) (why : Cause) (h : x.ctx.realRun = true ∨ x.ctx.state = .handback) :
      Move i x (x.enterTripped why i.alone.tripGrant)
  /-- a strand that is not PASSIVE enters TRACKING (R24, R26, R137, R140, R146) -/
  | leave (x : Strand) (due : Bool) (o : Option Observed) (pending : Bool) (h : x.ctx.state ≠ .passive) :
      Move i x { x.enterTracking with
        claimDue := due, observed := o, ctx := { x.enterTracking.ctx with releasePending := pending } }
  /-- a non-shadow running strand that is not enrolled enters HANDBACK (R133) -/
  | handback (x : Strand) (n : Nat) (h : x.ctx.realRun = true) (he : x.ctx.enrolled = false) :
      Move i x (x.enterHandback n)
  /-- a claim is latched in HANDBACK (R141) -/
  | latch (x : Strand) (b : Handback) (h : x.ctx.state = .handback) : Move i x { x with blend := some b }
  /-- a blend step (R135) -/
  | blend (x : Strand) (b : Handback) (g : Grant) (h : x.ctx.state = .handback) (hg : g.demand = g.flows.sum) :
      Move i x { x with blend := some b, grant := g }
  /-- a non-shadow running strand is granted a speed under a table (R57, R61 to R63) -/
  | grant (x : Strand) (v : Nat) (t : TableId) (h : x.ctx.realRun = true) : Move i x { x with grant := i.alone.grantFor v t }
  /-- a shadow strand is granted a speed under a table (R57, R64) -/
  | shadowGrant (x : Strand) (v : Nat) (t : TableId) (h : x.ctx.shadowRun = true) :
      Move i x { x with shadowGrant := i.alone.grantFor v t }
  /-- a driving strand counts one more beat of silence (R155) -/
  | silence (x : Strand) (h : x.ctx.driving = true) : Move i x x.countSilence
  /-- the master's frame is observed (R153, R155) -/
  | observe (x : Strand) (o : Observed) : Move i x (x.observe o)
  /-- a frame that is not rewritten pays release pending and a due claim answer (R154) -/
  | answered (x : Strand) (h : x.ctx.driving = false) :
      Move i x { x with ctx := { x.ctx with releasePending := false }, claimDue := false }
  /-- UNTRACK (R8) -/
  | untrack (x : Strand) (h : x.ctx.state = .tracking) :
      Move i x { x with ctx := x.ctx.toPassive, observed := none, claimDue := false }

/-- Any number of moves. -/
abbrev Strand.Moves (i : Image) : Strand → Strand → Prop := Relation.ReflTransGen (Strand.Move i)

theorem Strand.Move.moves {i : Image} {x y : Strand} (h : Strand.Move i x y) : Strand.Moves i x y := .single h

/-- A property that every move keeps is kept by any number of moves. -/
theorem Strand.Moves.keeps {i : Image} {P : Strand → Prop} (hP : ∀ x y, Strand.Move i x y → P x → P y) {x y : Strand}
    (h : Strand.Moves i x y) (hx : P x) : P y := by
  induction h with
  | refl => exact hx
  | tail _ hm ih => exact hP _ _ hm ih

/-! ## Events that move strands -/

/-- From s to t the strands move under the tables of s, and everything in the frame stays. -/
structure State.moves (s t : State) : Prop where
  frame : t.frame = s.frame
  strands : ∀ k, Strand.Moves s.working (s.strand k) (t.strand k)

theorem State.moves.working {s t : State} (h : s.moves t) : t.working = s.working := State.working_of_frame h.frame

/-- An event that leaves the strands' records alone. -/
theorem State.moves_of_strands {s t : State} (hf : t.frame = s.frame) (hs : t.strands = s.strands) : s.moves t :=
  ⟨hf, fun k => by rw [State.strand_of_strands hs k]⟩

theorem State.moves.refl (s : State) : s.moves s := State.moves_of_strands rfl rfl

theorem State.moves.trans {s t u : State} (h : s.moves t) (g : t.moves u) : s.moves u :=
  ⟨g.frame.trans h.frame, fun k => (h.strands k).trans (by rw [← h.working]; exact g.strands k)⟩

/-- What comes after is a change outside the frame and the strands. -/
theorem State.moves.then {s t u : State} (h : s.moves t) (hf : u.frame = t.frame) (hs : u.strands = t.strands) : s.moves u :=
  h.trans (State.moves_of_strands hf hs)

theorem State.moves.raise {s t : State} (h : s.moves t) (a : AlarmKind) (o : Option StrandId) (d : Nat) :
    s.moves (t.raise a o d) := h.then (by simp) (by simp)

theorem State.moves.moveChange {s t : State} (h : s.moves t) (c : ChangeState) : s.moves (t.moveChange c) :=
  h.then (by simp) (by simp)

/-- One strand moves. -/
theorem State.moves_upd (s : State) (k : StrandId) (f : Strand → Strand)
    (h : Strand.Moves s.working (s.strand k) (f (s.strand k))) : s.moves (s.upd k f) :=
  ⟨rfl, fun j => by
    rw [State.strand_upd]
    split
    · next hj => rw [hj]; exact h
    · exact .refl⟩

theorem State.moves_updCtx (s : State) (k : StrandId) (f : Context → Context)
    (h : Strand.Moves s.working (s.strand k) { s.strand k with ctx := f (s.ctx k) }) : s.moves (s.updCtx k f) :=
  State.moves_upd s k _ h

/-- A step that moves strands, taken for each strand of a list. -/
theorem forStrands_moves (l : List StrandId) (f : StrandId → State → State) (s : State)
    (h : ∀ k ∈ l, ∀ t : State, s.moves t → t.moves (f k t)) : s.moves (forStrands l f s) :=
  forStrands_induct (fun t => s.moves t) l f (fun k hk t ht => ht.trans (h k hk t ht)) s (.refl s)

/-- The same for a list without repeats, where each step leaves the other strands alone: at its turn each strand still is what it
was. -/
theorem forStrands_moves_own (l : List StrandId) (hl : l.Nodup) (f : StrandId → State → State) (s : State)
    (h : ∀ k ∈ l, ∀ t : State, s.moves t → t.strand k = s.strand k →
      t.moves (f k t) ∧ ∀ j, j ≠ k → (f k t).strand j = t.strand j) : s.moves (forStrands l f s) := by
  suffices H : ∀ l' : List StrandId, l'.Nodup → (∀ k ∈ l', k ∈ l) → ∀ t, s.moves t →
      (∀ k ∈ l', t.strand k = s.strand k) → s.moves (forStrands l' f t) from
    H l hl (fun _ hk => hk) s (.refl s) fun _ _ => rfl
  intro l'
  induction l' with
  | nil => intro _ _ t ht _; exact ht
  | cons k l' ih =>
    intro hn hm t ht hs
    obtain ⟨hk, hn'⟩ := List.nodup_cons.mp hn
    obtain ⟨h1, h2⟩ := h k (hm k List.mem_cons_self) t ht (hs k List.mem_cons_self)
    refine ih hn' (fun j hj => hm j (List.mem_cons_of_mem _ hj)) _ (ht.trans h1) fun j hj => ?_
    rw [h2 j fun e => hk (e ▸ hj), hs j (List.mem_cons_of_mem _ hj)]

end Sys2Proof.Machine

/-! Every move keeps a strand's records in agreement with its state. -/

namespace Sys2Proof.Machine

/-! ## Contexts -/

/-- The two states of a run (R4). -/
theorem Context.running_iff (c : Context) : c.running = true ↔ c.state = .ramping ∨ c.state = .holding := by
  simp [Context.running]

theorem Context.realRun_iff (c : Context) : c.realRun = true ↔ c.running = true ∧ c.shadow = false := by
  simp [Context.realRun]

theorem Context.shadowRun_iff (c : Context) : c.shadowRun = true ↔ c.running = true ∧ c.shadow = true := by
  simp [Context.shadowRun]

theorem Context.driving_iff (c : Context) :
    c.driving = true ↔ c.realRun = true ∨ c.state = .handback ∨ c.state = .tripped := by
  simp [Context.driving]

theorem Context.realRun_congr {c d : Context} (hr : d.running = c.running) (hs : d.shadow = c.shadow) :
    d.realRun = c.realRun := by simp [Context.realRun, hr, hs]

theorem Context.shadowRun_congr {c d : Context} (hr : d.running = c.running) (hs : d.shadow = c.shadow) :
    d.shadowRun = c.shadowRun := by simp [Context.shadowRun, hr, hs]

theorem Context.running_congr {c d : Context} (h : d.state = c.state) : d.running = c.running := by
  simp [Context.running, h]

/-- A running context is sound when it has the fields of a run and is HOLDING exactly while its hold set is not empty (R15). -/
theorem Context.sound_running {c : Context} (h : c.running = true) :
    c.sound ↔ c.runSound ∧ (c.state = .holding ↔ c.hold ≠ {}) := by
  rcases c.running_iff.mp h with hs | hs <;> simp [Context.sound, hs, and_comm]

/-- A context that runs no profile is sound when everything but state, cause and release pending has its default (R2). -/
theorem Context.sound_idle {c : Context} (h : c.running = false) (hc : c.sound) :
    c = { state := c.state, cause := c.cause, releasePending := c.releasePending } := by
  unfold Context.sound at hc
  split at hc
  · next hs => rw [hc]
  · next hs => rw [hc]
  · next hs => simp [Context.running, hs] at h
  · next hs => simp [Context.running, hs] at h
  · next hs => rw [hc]
  · next hs => rw [hc.2]

/-- A sound context that does not run keeps every field that R2 sets. -/
theorem Context.running_of_profile {c : Context} (hc : c.sound) (h : c.profile.isSome = true) : c.running = true := by
  by_contra hr
  rw [Context.sound_idle (by simpa using hr) hc] at h
  simp at h

theorem Context.sound_reason {c d : Context} {h' : HoldSet} (hc : c.sound) (hr : c.running = true)
    (hd : d = { c with state := d.state, hold := h' }) (hs : d.state = if h' = {} then .ramping else .holding) : d.sound := by
  have hrun : d.running = true := by rw [Context.running_iff, hs]; split <;> simp
  obtain ⟨h, -⟩ := (Context.sound_running hr).mp hc
  refine (Context.sound_running hrun).mpr ⟨?_, ?_⟩
  · rw [hd]; exact h
  · rw [hs, hd]; by_cases e : h' = {} <;> simp [e]

theorem HoldSet.put_true_ne (h : HoldSet) (r : Reason) : h.put r true ≠ {} := fun e => by
  have := HoldSet.has_put h r r true
  rw [e] at this
  cases r <;> simp [HoldSet.has] at this

/-- The arrival of a reason keeps a context sound (R15 to R17). -/
theorem Context.addReason_sound {c : Context} (r : Reason) (hc : c.sound) : (c.addReason r).sound := by
  unfold Context.addReason
  split
  · next hr => exact Context.sound_reason (h' := c.hold.put r true) hc hr rfl (by simp [HoldSet.put_true_ne])
  · exact hc

theorem Context.removeReason_sound {c : Context} (r : Reason) (hc : c.sound) : (c.removeReason r).sound := by
  unfold Context.removeReason
  split
  · next hs =>
    refine Context.sound_reason (h' := c.hold.put r false) hc (c.running_iff.mpr (.inr hs)) rfl ?_
    simp [HoldSet.isEmpty]
  · exact hc

/-- A change of a running context that leaves its state, hold set and the presence of the fields of a run. -/
theorem Context.sound_edit {c d : Context} (hc : c.sound) (hr : c.running = true) (hs : d.state = c.state)
    (hh : d.hold = c.hold) (hd : c.runSound → d.runSound) : d.sound := by
  obtain ⟨h1, h2⟩ := (Context.sound_running hr).mp hc
  exact (Context.sound_running ((Context.running_congr hs).trans hr)).mpr ⟨hd h1, by rw [hs, hh]; exact h2⟩

/-! ## Strands -/

/-- A change of the context within its run, or outside a run within its state, keeps the strand's records sound. -/
theorem Strand.sound_ctx {x : Strand} {d : Context} (hx : x.sound) (hd : d.sound) (hr : d.running = x.ctx.running)
    (hi : x.ctx.running = false → d.state = x.ctx.state) (hsh : d.shadow = x.ctx.shadow)
    (he : d.enrolled = x.ctx.enrolled) : { x with ctx := d }.sound := by
  obtain ⟨-, hb, hm, hen, ⟨hg, hsg, hgd, hsgd⟩, hp, hsi, hs2, ho, hcl⟩ := hx
  have key : ∀ st, st ≠ .ramping → st ≠ .holding → (d.state = st ↔ x.ctx.state = st) := by
    intro st h1 h2
    cases hrun : x.ctx.running with
    | false => rw [hi hrun]
    | true =>
      have := (x.ctx.running_iff.mp hrun); have := (d.running_iff.mp (hr.trans hrun))
      constructor <;> intro h <;> simp_all
  have hreal := Context.realRun_congr hr hsh
  have hdr : d.driving = x.ctx.driving := by
    simp only [Context.driving, hreal, key .handback (by simp) (by simp), key .tripped (by simp) (by simp)]
  refine ⟨hd, ?_, ?_, ?_, ⟨?_, ?_, hgd, hsgd⟩, ?_, ?_, hs2, ho, ?_⟩
  · simpa only [key .handback (by simp) (by simp)] using hb
  · simpa only [he] using hm
  · simpa only [he, hreal] using hen
  · simpa only [hdr] using hg
  · simpa only [Context.shadowRun_congr hr hsh] using hsg
  · simpa only [key .passive (by simp) (by simp)] using hp
  · simpa only [hdr] using hsi
  · simpa only [key .tracking (by simp) (by simp)] using hcl

@[simp] theorem Context.addReason_shadow (r : Reason) (c : Context) : (c.addReason r).shadow = c.shadow := by
  unfold Context.addReason; split <;> rfl
@[simp] theorem Context.addReason_enrolled (r : Reason) (c : Context) : (c.addReason r).enrolled = c.enrolled := by
  unfold Context.addReason; split <;> rfl
@[simp] theorem Context.removeReason_shadow (r : Reason) (c : Context) : (c.removeReason r).shadow = c.shadow := by
  unfold Context.removeReason; split <;> rfl
@[simp] theorem Context.removeReason_enrolled (r : Reason) (c : Context) : (c.removeReason r).enrolled = c.enrolled := by
  unfold Context.removeReason; split <;> rfl

theorem Context.addReason_idle (r : Reason) {c : Context} (h : c.running = false) : c.addReason r = c := by
  simp [Context.addReason, h]

theorem Context.removeReason_idle (r : Reason) {c : Context} (h : c.running = false) : c.removeReason r = c := by
  unfold Context.removeReason
  split
  · next hs => simp [Context.running, hs] at h
  · rfl

end Sys2Proof.Machine

namespace Sys2Proof.Machine

/-! ## Moves -/

/-- A change of counts and marks that are at rest outside a run keeps the strand's records sound. -/
theorem Strand.sound_edit {x : Strand} {d : Context} (hx : x.sound) (hs : d.state = x.ctx.state) (hh : d.hold = x.ctx.hold)
    (hsh : d.shadow = x.ctx.shadow) (he : d.enrolled = x.ctx.enrolled) (hd : x.ctx.runSound → d.runSound)
    (hi : x.ctx.running = false → d = x.ctx) : { x with ctx := d }.sound := by
  refine Strand.sound_ctx hx ?_ (Context.running_congr hs) (fun _ => hs) hsh he
  cases hr : x.ctx.running with
  | true => exact Context.sound_edit hx.1 hr hs hh hd
  | false => rw [hi hr]; exact hx.1

/-- The states of a run. -/
theorem Strand.sound_running {x : Strand} (hx : x.sound) (hr : x.ctx.running = true) :
    x.ctx.runSound ∧ x.blend = none ∧ x.claimDue = false := by
  obtain ⟨hc, hb, -, -, -, -, -, -, -, hcl⟩ := hx
  have hs := x.ctx.running_iff.mp hr
  refine ⟨((Context.sound_running hr).mp hc).1, ?_, ?_⟩
  · rw [← Option.not_isSome_iff_eq_none, hb]; rcases hs with h | h <;> simp [h]
  · rw [Bool.eq_false_iff]; intro h; rcases hs with h' | h' <;> simp [hcl h] at h'

theorem State.grantFor_demand (s : State) (v : Nat) (t : TableId) : (s.grantFor v t).demand = (s.grantFor v t).flows.sum := rfl

theorem State.tripGrant_demand (s : State) : s.tripGrant.demand = s.tripGrant.flows.sum := rfl

/-- A grant to a driving strand keeps its records sound where the demand is the sum of the flows (R57). -/
theorem Strand.sound_grant {x : Strand} {g : Grant} (hx : x.sound) (hd : x.ctx.driving = true)
    (hg : g.demand = g.flows.sum) : { x with grant := g }.sound := by
  obtain ⟨hc, hb, hm, hen, ⟨-, hsg, -, hsgd⟩, hp, hsi, hs2, ho, hcl⟩ := hx
  exact ⟨hc, hb, hm, hen, ⟨by simp [hd], hsg, hg, hsgd⟩, hp, hsi, hs2, ho, hcl⟩

theorem Strand.sound_shadowGrant {x : Strand} {g : Grant} (hx : x.sound) (hd : x.ctx.shadowRun = true)
    (hg : g.demand = g.flows.sum) : { x with shadowGrant := g }.sound := by
  obtain ⟨hc, hb, hm, hen, ⟨hgd, -, hgs, -⟩, hp, hsi, hs2, ho, hcl⟩ := hx
  exact ⟨hc, hb, hm, hen, ⟨hgd, by simp [hd], hgs, hg⟩, hp, hsi, hs2, ho, hcl⟩

/-- A strand in HANDBACK keeps its records sound under another handback record. -/
theorem Strand.sound_blend {x : Strand} (b : Handback) (hx : x.sound) (h : x.ctx.state = .handback) :
    { x with blend := some b }.sound := by
  obtain ⟨hc, -, hm, hen, hg, hp, hsi, hs2, ho, hcl⟩ := hx
  exact ⟨hc, by simp [h], hm, hen, hg, hp, hsi, hs2, ho, hcl⟩

/-- The records of a strand that enters TRACKING are sound, whatever is observed, due or pending (R2, R58). -/
theorem Strand.sound_enterTracking (x : Strand) (due : Bool) (o : Option Observed) (pending : Bool) :
    { x.enterTracking with
      claimDue := due, observed := o, ctx := { x.enterTracking.ctx with releasePending := pending } }.sound :=
  ⟨rfl, by simp [Strand.enterTracking, Context.toTracking], by simp [Strand.enterTracking, Context.toTracking],
    nofun, ⟨fun _ => rfl, fun _ => rfl, rfl, rfl⟩, nofun, fun _ => rfl, Nat.zero_le _,
    by simp [Strand.enterTracking], fun _ => rfl⟩

/-- A sound strand that drives carries no shadow grant and has no claim answer due, for a non-shadow run and in HANDBACK. -/
theorem Strand.sound_leaving {x : Strand} (hx : x.sound) (h : x.ctx.realRun = true ∨ x.ctx.state = .handback) :
    x.shadowGrant = {} ∧ x.claimDue = false ∧ x.ctx.state ≠ .passive := by
  obtain ⟨-, -, -, -, ⟨-, hsg, -, -⟩, -, -, -, -, hcl⟩ := hx
  rcases h with h | h
  · obtain ⟨hr, hsh⟩ := x.ctx.realRun_iff.mp h
    have hs := x.ctx.running_iff.mp hr
    refine ⟨hsg ?_, ?_, ?_⟩
    · simp [Context.shadowRun, hsh]
    · rw [Bool.eq_false_iff]; intro h'; simp [hcl h'] at hs
    · rcases hs with h | h <;> simp [h]
  · refine ⟨hsg ?_, ?_, by simp [h]⟩
    · simp [Context.shadowRun, Context.running, h]
    · rw [Bool.eq_false_iff]; intro h'; simp [hcl h'] at h

theorem Strand.sound_enterTripped {x : Strand} (why : Cause) {g : Grant} (hg : g.demand = g.flows.sum) (hx : x.sound)
    (h : x.ctx.realRun = true ∨ x.ctx.state = .handback) : (x.enterTripped why g).sound := by
  obtain ⟨hsg, hcl, -⟩ := Strand.sound_leaving hx h
  obtain ⟨-, -, -, -, -, -, -, hs2, ho, -⟩ := hx
  have hd : (x.enterTripped why g).ctx.driving = true := by simp [Strand.enterTripped, Context.toTripped, Context.driving]
  exact ⟨⟨rfl, rfl⟩, by simp [Strand.enterTripped, Context.toTripped], by simp [Strand.enterTripped, Context.toTripped], nofun,
    ⟨by simp [hd], fun _ => hsg, hg, by simp [Strand.enterTripped, hsg, Zones.sum]⟩, nofun, by simp [hd], hs2, ho,
    by simp [Strand.enterTripped, hcl]⟩

theorem Strand.sound_enterHandback {x : Strand} (n : Nat) (hx : x.sound) (h : x.ctx.realRun = true)
    (he : x.ctx.enrolled = false) : (x.enterHandback n).sound := by
  obtain ⟨hsg, hcl, -⟩ := Strand.sound_leaving hx (.inl h)
  obtain ⟨-, -, hm, -, ⟨-, -, hgd, hsgd⟩, -, -, hs2, ho, -⟩ := hx
  have hd : (x.enterHandback n).ctx.driving = true := by simp [Strand.enterHandback, Context.toHandback, Context.driving]
  refine ⟨rfl, by simp [Strand.enterHandback, Context.toHandback], ?_, nofun,
    ⟨by simp [hd], fun _ => hsg, hgd, hsgd⟩, nofun, by simp [hd], hs2, ho, by simp [Strand.enterHandback, hcl]⟩
  simpa [Strand.enterHandback, Context.toHandback, he] using hm

/-- The records under the change override are those of an enrolled real run (R91, R95). -/
theorem Strand.sound_override {x : Strand} {d : Context} (m : Nat) (hx : x.sound) (hr : x.ctx.realRun = true)
    (hd : d = { x.ctx with enrolled := true, target := d.target, rate := d.rate }) (ht : d.target.isSome = true)
    (hra : d.rate.isSome = true) : { x with mark := some m, ctx := d }.sound := by
  obtain ⟨hrun, hsh⟩ := x.ctx.realRun_iff.mp hr
  have hs : d.state = x.ctx.state := by rw [hd]
  have hrun' : d.running = x.ctx.running := Context.running_congr hs
  have hreal : d.realRun = x.ctx.realRun := Context.realRun_congr hrun' (by rw [hd])
  have hdr : d.driving = x.ctx.driving := by simp only [Context.driving, hreal, hs]
  obtain ⟨hc, hb, -, -, ⟨hg, hsg, hgd, hsgd⟩, hp, hsi, hs2, ho, hcl⟩ := hx
  refine ⟨Context.sound_edit hc hrun hs (by rw [hd]) ?_, ?_, by simp [show d.enrolled = true by rw [hd]], fun _ => ?_,
    ⟨?_, ?_, hgd, hsgd⟩, ?_, ?_, hs2, ho, ?_⟩
  · rintro ⟨h1, h2, h3, h4, -, -⟩
    rw [hd] at ht hra ⊢
    exact ⟨h1, h2, h3, h4, ht, hra⟩
  · simpa only [hs] using hb
  · exact hreal.trans hr
  · simpa only [hdr] using hg
  · simpa only [Context.shadowRun_congr hrun' (show d.shadow = x.ctx.shadow by rw [hd])] using hsg
  · simpa only [hs] using hp
  · simpa only [hdr] using hsi
  · simpa only [hs] using hcl

/-- Out of the enrolled set the records stay sound (R100 to R102). -/
theorem Strand.sound_unenroll {x : Strand} (hx : x.sound) :
    { x with ctx := { x.ctx with enrolled := false }, mark := none }.sound := by
  obtain ⟨hc, hb, -, -, hg, hp, hsi, hs2, ho, hcl⟩ := hx
  refine ⟨?_, hb, by simp, by simp, hg, hp, hsi, hs2, ho, hcl⟩
  cases hr : x.ctx.running with
  | true => exact Context.sound_edit hc hr rfl rfl id
  | false =>
    have e : { x.ctx with enrolled := false } = x.ctx := by rw [Context.sound_idle hr hc]
    exact e ▸ hc

/-- The silence count and the originating flag of a driving strand rise together (R155). -/
theorem Strand.sound_countSilence {x : Strand} (hx : x.sound) (hd : x.ctx.driving = true) : x.countSilence.sound := by
  unfold Strand.countSilence
  split
  · next h =>
    obtain ⟨hc, hb, hm, hen, hg, hp, -, -, ho, hcl⟩ := hx
    refine ⟨hc, hb, hm, hen, hg, hp, by simp [hd], by simp; omega, ?_, hcl⟩
    have ho' : x.originating = false := by rw [Bool.eq_false_iff]; intro e; have := ho.mp e; omega
    simp [ho']
  · exact hx

theorem Strand.sound_observe {x : Strand} (o : Observed) (hx : x.sound) : (x.observe o).sound := by
  obtain ⟨hc, hb, hm, hen, hg, hp, -, -, -, hcl⟩ := hx
  refine ⟨hc, hb, hm, hen, hg, fun h => ?_, fun _ => rfl, Nat.zero_le _, by simp [Strand.observe], hcl⟩
  simp only [Strand.observe] at h ⊢
  rw [if_pos h]; exact hp h

theorem Strand.sound_answered {x : Strand} (hx : x.sound) :
    { x with ctx := { x.ctx with releasePending := false }, claimDue := false }.sound := by
  obtain ⟨hc, hb, hm, hen, hg, hp, hsi, hs2, ho, -⟩ := hx
  refine ⟨?_, hb, hm, hen, hg, hp, hsi, hs2, ho, nofun⟩
  cases hr : x.ctx.running with
  | true =>
    refine Context.sound_edit hc hr rfl rfl fun ⟨h1, _, h3⟩ => ⟨h1, rfl, h3⟩
  | false =>
    cases hs : x.ctx.state <;> simp only [Context.sound, hs] at hc ⊢
    case passive => rw [hc]
    case tracking => rw [hc]
    case ramping => simp [Context.running, hs] at hr
    case holding => simp [Context.running, hs] at hr
    case handback => rw [hc]
    case tripped => rw [hc.2]; exact ⟨hc.1, rfl⟩

theorem Strand.sound_untrack {x : Strand} (hx : x.sound) (h : x.ctx.state = .tracking) :
    { x with ctx := x.ctx.toPassive, observed := none, claimDue := false }.sound := by
  obtain ⟨hc, hb, hm, -, ⟨hg, hsg, hgd, hsgd⟩, -, hsi, hs2, ho, -⟩ := hx
  have hr : x.ctx.running = false := by simp [Context.running, h]
  have hd : x.ctx.driving = false := by simp [Context.driving, Context.realRun, hr, h]
  have hm' : x.mark = none := by
    rw [← Option.not_isSome_iff_eq_none, hm, Context.sound_idle hr hc]; simp
  refine ⟨rfl, ?_, by simp [hm', Context.toPassive], nofun, ⟨fun _ => hg hd, fun _ => hsg ?_, hgd, hsgd⟩, fun _ => rfl,
    fun _ => hsi hd, hs2, ho, nofun⟩
  · simpa [h, Context.toPassive] using hb
  · simp [Context.shadowRun, hr]

/-- Every move keeps a strand's records in agreement with its state (R2, R15, R57, R91, R132, R141, R153, R155). -/
theorem Strand.Move.sound {i : Image} {x y : Strand} (h : Strand.Move i x y) (hx : x.sound) : y.sound := by
  have idle := fun hr => Context.sound_idle (c := x.ctx) hr hx.1
  have run := fun hp => Context.running_of_profile (c := x.ctx) hx.1 hp
  have rs : ∀ {c d : Context}, c.runSound → d.cause = c.cause → d.releasePending = c.releasePending →
      d.profile = c.profile → d.segment.isSome = true → d.target.isSome = true → d.rate.isSome = true → d.runSound :=
    fun ⟨h1, h2, h3, _⟩ e1 e2 e3 a b c => ⟨e1.trans h1, e2.trans h2, by rw [e3]; exact h3, a, b, c⟩
  cases h with
  | input r => exact hx
  | add r =>
    exact Strand.sound_ctx hx (Context.addReason_sound r hx.1) (by simp)
      (fun hr => by rw [Context.addReason_idle r hr]) (by simp) (by simp)
  | remove h =>
    exact Strand.sound_ctx hx (Context.removeReason_sound _ hx.1) (by simp)
      (fun hr => by rw [Context.removeReason_idle _ hr]) (by simp) (by simp)
  | quiet => exact Strand.sound_edit hx rfl rfl rfl rfl id fun hr => by rw [idle hr]
  | reseeded => exact Strand.sound_edit hx rfl rfl rfl rfl id fun hr => by rw [idle hr]
  | note c h hc =>
    refine Strand.sound_edit hx (by rw [hc]) (by rw [hc]) (by rw [hc]) (by rw [hc]) ?_ (by simp [h])
    rw [hc]; exact id
  | lower a h =>
    refine Strand.sound_edit hx rfl rfl rfl rfl id fun hr => ?_
    rw [idle hr] at h ⊢
    rw [Nat.le_zero.mp h]
  | advance a h ha => exact Strand.sound_edit hx rfl rfl rfl rfl id (by simp [h])
  | load p n hp hn =>
    exact Strand.sound_edit hx rfl rfl rfl rfl (fun h => rs h rfl rfl rfl (by simp [State.loadSegment, hn]) rfl rfl)
      (by simp [run (hp ▸ rfl)])
  | enter p n hp hn =>
    exact Strand.sound_edit hx rfl rfl rfl rfl (fun h => rs h rfl rfl rfl rfl rfl rfl) (by simp [run (hp ▸ rfl)])
  | finish h =>
    exact Strand.sound_edit hx rfl rfl rfl rfl (fun ⟨h1, h2, h3, _, h5, h6⟩ => ⟨h1, h2, h3, rfl, h5, h6⟩) (by simp [h])
  | override h =>
    have hr : x.ctx.realRun = true := h.elim id fun he => hx.2.2.2.1 he
    exact Strand.sound_override _ hx hr rfl rfl rfl
  | unenroll => exact Strand.sound_unenroll hx
  | trip why h => exact Strand.sound_enterTripped why (State.tripGrant_demand _) hx h
  | leave due o pending h => exact Strand.sound_enterTracking x due o pending
  | handback n h he => exact Strand.sound_enterHandback n hx h he
  | latch b h => exact Strand.sound_blend b hx h
  | blend b g h hg =>
    exact Strand.sound_grant (Strand.sound_blend b hx h) (by simp [Context.driving, h]) hg
  | grant v t h => exact Strand.sound_grant hx (by simp [Context.driving, h]) (State.grantFor_demand _ v t)
  | shadowGrant v t h => exact Strand.sound_shadowGrant hx h (State.grantFor_demand _ v t)
  | silence h => exact Strand.sound_countSilence hx h
  | observe o => exact Strand.sound_observe o hx
  | answered h => exact Strand.sound_answered hx
  | untrack h => exact Strand.sound_untrack hx h

theorem Strand.Moves.sound {i : Image} {x y : Strand} (h : Strand.Moves i x y) (hx : x.sound) : y.sound :=
  Strand.Moves.keeps (fun _ _ => Strand.Move.sound) h hx

end Sys2Proof.Machine

/-! The operations of the running part, each as moves of the strands it reaches. -/

namespace Sys2Proof.Machine

/-! ## Trips -/

theorem State.tripOne_moves (why : Cause) (k : StrandId) (s : State) : s.moves (s.tripOne why k) := by
  unfold State.tripOne
  split
  · next h =>
    exact ((State.moves_upd s k _ (Strand.Move.trip _ why h).moves).then (State.frame_count _ _) rfl).raise _ _ _
  · split
    · next h =>
      have hp : (s.ctx k).state ≠ .passive := by
        intro e; simp [Context.shadowRun, Context.running, e] at h
      exact (State.moves_upd s k _ (Strand.Move.leave _ _ _ _ hp).moves).raise _ _ _
    · exact .refl s

theorem State.settleChange_moves (s : State) : s.moves s.settleChange := by
  unfold State.settleChange
  split
  · exact (State.moves.refl s).moveChange _
  · exact .refl s

theorem State.trips_moves (why : Cause) (ks : List StrandId) (s : State) : s.moves (forStrands ks (State.tripOne why) s) :=
  forStrands_moves ks _ s fun k _ t _ => State.tripOne_moves why k t

theorem State.tripAll_moves (why : Cause) (ks : List StrandId) (s : State) : s.moves (s.tripAll why ks) :=
  (State.trips_moves why ks s).trans (State.settleChange_moves _)

/-! ## Segments and the change override -/

theorem State.applyOverride_moves (k : StrandId) (s : State)
    (h : (s.ctx k).enrolled = true) : s.moves (s.applyOverride k) :=
  State.moves_upd s k _ (by
    have m := Strand.Move.override (i := s.working) (s.strand k) (.inr h)
    rw [← show (s.strand k).ctx.enrolled = true from h] at m
    exact m.moves)

theorem State.overridden_iff (s : State) (k : StrandId) :
    s.overridden k = true ↔ s.change = .lowering ∧ (s.ctx k).enrolled = true := by simp [State.overridden]

/-- Entry into the re-entry segment or into the next of the current one. -/
theorem State.enterSegment_moves (k : StrandId) (n : Fin 8) (s : State)
    (hn : ∀ p, (s.ctx k).profile = some p →
      n = (s.working.profile p).reentry ∨ ∃ m, (s.ctx k).segment = some (.seg m) ∧ (s.working.segment p m).next = .seg n) :
    s.moves (s.enterSegment k n) := by
  unfold State.enterSegment
  split
  · exact .refl s
  · next p hp =>
    have h := State.moves_updCtx s k (fun c =>
      s.loadSegment (s.working.segment p n) { c with segment := some (.seg n), dwell := 0, confirmSeen := false })
      (Strand.Move.enter _ p n hp (hn p hp)).moves
    dsimp only
    split
    · next ho => exact h.trans (State.applyOverride_moves k _ ((State.overridden_iff _ k).mp ho).2)
    · exact h

theorem State.reload_moves (k : StrandId) (s : State) : s.moves (s.reload k) := by
  unfold State.reload
  split
  · exact State.enterSegment_moves k _ s fun p hp => .inl (by simp [State.profileOf, hp])
  · split
    · next g hg =>
      unfold State.segmentOf at hg
      split at hg
      · next p n hp hn =>
        cases hg
        exact State.moves_updCtx s k _ (Strand.Move.load _ p n hp hn).moves
      · cases hg
    · exact .refl s

/-! ## The Change Coordinator -/

theorem Strand.released_moves (i : Image) (x : Strand) : Strand.Moves i x x.released :=
  .tail (.single (.remove x (r := .change) (by simp))) (.unenroll _)

theorem State.releases_moves (ks : List StrandId) (s : State) :
    s.moves (forStrands ks (fun k s => s.upd k Strand.released) s) :=
  forStrands_moves ks _ s fun k _ t _ => State.moves_upd t k _ (Strand.released_moves _ _)

theorem State.releaseChange_moves (s : State) : s.moves s.releaseChange := (State.releases_moves _ s).moveChange _

/-- Another coordinator state, or another count of it. -/
theorem State.moves_change (s : State) (c : ChangeState) (n m : Nat) :
    s.moves { s with change := c, loweringCount := n, swapCount := m } := State.moves_of_strands rfl rfl

theorem State.toAtLow_moves (s : State) : s.moves s.toAtLow := by
  refine ((State.moves_change s .atLow s.loweringCount s.swapCount).trans ?_).raise _ _ _
  exact forStrands_moves _ _ _ fun k _ t _ =>
    (State.moves_updCtx t k _ (Strand.Move.add _ .change).moves).trans (State.reload_moves k _)

theorem State.expireLowering_moves (s : State) : s.moves s.expireLowering := by
  unfold State.expireLowering
  dsimp only
  split
  · exact (State.trips_moves _ _ s).trans (State.toAtLow_moves _)
  · exact (State.trips_moves _ _ s).moveChange _

theorem State.expireSwap_moves (s : State) : s.moves s.expireSwap := (State.trips_moves _ _ s).moveChange _

theorem State.changeBeat_moves (s : State) : s.moves s.changeBeat := by
  have hl : s.moves s.countLowering := State.moves_of_strands rfl rfl
  have hs : s.moves s.countSwap := State.moves_of_strands rfl rfl
  unfold State.changeBeat
  split
  · split
    · exact State.toAtLow_moves s
    · split
      · exact hl.trans (State.expireLowering_moves _)
      · exact hl
  · split
    · exact hs.trans (State.expireSwap_moves _)
    · exact hs
  · exact .refl s
  · exact .refl s

theorem State.takeWeight_moves (w : Nat) (s : State) : s.moves (s.takeWeight w) := by
  unfold State.takeWeight
  split
  · split
    · exact (State.moves_change s s.change s.loweringCount 0).moveChange _
    · exact .refl s
  · split
    · exact State.releaseChange_moves s
    · exact .refl s
  · exact .refl s
  · exact .refl s

theorem State.cancelLowering_moves (s : State) : s.moves s.cancelLowering := by
  refine ((State.moves_change s .clear s.loweringCount s.swapCount).trans ?_).raise _ _ _
  exact forStrands_moves _ _ _ fun k _ t _ =>
    (State.reload_moves k t).trans (State.moves_upd _ k _ (Strand.released_moves _ _))

/-- A strand that joins the enrolled set: its flag, its low mark, and the change's target and rate (R94, R95). -/
theorem State.enroll_eq (k : StrandId) (s : State) : s.enroll k = s.upd k fun x => { x with
      mark := some (min x.ctx.acc (s.changeSpeed * 64))
      ctx := { x.ctx with
        enrolled := true
        target := some (if s.changeSpeed * 64 < x.ctx.acc then s.changeSpeed else x.ctx.acc / 64)
        rate := some (min s.plant.changeRate s.lim.speed.maxRate) } } := by
  unfold State.enroll State.updCtx State.applyOverride
  rw [State.upd_upd]
  rfl

theorem State.enroll_moves (k : StrandId) (s : State) (h : (s.ctx k).realRun = true) :
    s.moves (s.enroll k) ∧ ∀ j, j ≠ k → (s.enroll k).strand j = s.strand j := by
  rw [State.enroll_eq]
  exact ⟨State.moves_upd s k _ (Strand.Move.override _ (.inl h)).moves, fun j hj => by simp [hj]⟩

/-! ## The Dip Monitor -/

theorem State.receiveDip_moves (k : StrandId) (s : State) (h : (s.ctx k).running = true) :
    s.moves (s.updCtx k Context.receiveDip) :=
  State.moves_updCtx s k _ (.tail (.single (.add _ .dip)) (.note _ ((s.ctx k).receiveDip) (by simpa [State.ctx] using h) rfl))

/-- Dip begin, from the dip state it sets on (R107). -/
theorem State.dipBegin_moves (s : State) : { s with dip := .dipped }.moves s.dipBegin := by
  have h0 : { s with dip := .dipped }.moves { s with dip := .dipped, dipCount := 0 } := State.moves_of_strands rfl rfl
  refine (h0.trans (forStrands_moves_own _ (strandIds_nodup.filter _) _ _ fun k hk t _ e => ?_)).raise _ _ _
  refine ⟨State.receiveDip_moves k t ?_, fun j hj => by simp [State.updCtx, hj]⟩
  rw [State.ctx, e]
  exact (List.mem_filter.mp hk).2

theorem State.reseedStrand_moves (k : StrandId) (s : State) : s.moves (s.reseedStrand k) := by
  unfold State.reseedStrand
  dsimp only
  refine State.moves.trans ?_ (State.moves_updCtx _ k _ (.tail (.single (.remove _ (r := .dip) (by simp))) (.reseeded _)))
  refine (State.moves_updCtx s k
    (fun c => { c with acc := min (min ((s.strand k).input.reseedSpeed * 64) (s.lim.speed.maxSpeed * 64)) c.acc })
    (Strand.Move.lower _ _ (Nat.min_le_right _ _)).moves).trans ?_
  refine State.enterSegment_moves k _ _ fun p hp => .inl ?_
  have hp' : (s.ctx k).profile = some p := by simpa [State.ctx_updCtx] using hp
  simp [State.profileOf, hp']

/-- Dip end, from the dip state it sets on (R111). -/
theorem State.dipEnd_moves (s : State) : { s with dip := .normal }.moves s.dipEnd :=
  (forStrands_moves _ _ _ fun k _ t _ => State.reseedStrand_moves k t).raise _ _ _

theorem State.dipBeat_moves (s : State) : s.moves s.dipBeat := by
  have hc : s.moves s.countDip := State.moves_of_strands rfl rfl
  unfold State.dipBeat
  split
  · exact .refl s
  · split
    · exact hc.trans (State.tripAll_moves _ _ _)
    · exact hc

/-! ## The Input Monitor -/

theorem State.raiseLoss_cases (s : State) (o : Option StrandId) (i : Nat) (a b : LossState) :
    s.raiseLoss o i a b = s ∨ ∃ kind d, s.raiseLoss o i a b = s.raise kind o d := by
  unfold State.raiseLoss
  split
  · exact .inl rfl
  · exact .inr ⟨_, _, rfl⟩
  · exact .inr ⟨_, _, rfl⟩
  · exact .inl rfl

theorem State.moves.raiseLoss {s t : State} (h : s.moves t) (o : Option StrandId) (i : Nat) (a b : LossState) :
    s.moves (t.raiseLoss o i a b) := by
  rcases State.raiseLoss_cases t o i a b with e | ⟨kind, d, e⟩ <;> rw [e]
  · exact h
  · exact h.raise _ _ _

theorem State.setInput_moves (k : StrandId) (r : StrandInput) (s : State) : s.moves (s.setInput k r) :=
  ((State.moves_upd s k _ (Strand.Move.input _ r).moves).raiseLoss _ _ _ _).raiseLoss _ _ _ _

theorem Strand.sensorChange_moves (i : Image) (x : Strand) (before after : StrandInput) :
    Strand.Moves i x { x with ctx := x.ctx.sensorChange before after } := by
  unfold Context.sensorChange
  dsimp only
  have h1 : Strand.Moves i x { x with ctx :=
      if before.lvl.loss = .valid ∧ after.lvl.loss ≠ .valid then { x.ctx with levelExcess := 0 } else x.ctx } := by
    split
    · exact .single (.quiet x)
    · exact .refl
  split
  · exact h1.tail (.add _ .sensor)
  · split
    · exact h1.tail (.remove _ (r := .sensor) (by simp))
    · exact h1

/-- An input record changes, with what it brings to SENSOR (R84). -/
theorem State.sense_moves (k : StrandId) (before after : StrandInput) (s : State) :
    s.moves ((s.setInput k after).updCtx k (Context.sensorChange before after)) :=
  (State.setInput_moves k after s).trans (State.moves_updCtx _ k _ (Strand.sensorChange_moves _ _ _ _))

theorem State.takeBreakout_moves (k : StrandId) (before flag : Bool) (s : State) : s.moves (s.takeBreakout k before flag) := by
  unfold State.takeBreakout
  split
  · split
    · exact State.tripAll_moves _ _ s
    · exact State.tripAll_moves _ _ s
    · exact State.tripAll_moves _ _ s
    · split
      · exact .refl s
      · exact (State.moves.refl s).raise _ _ _
    · exact .refl s
    · exact .refl s
  · exact .refl s

/-- Counts and flags of a running strand change. -/
theorem State.note_moves (k : StrandId) (f : Context → Context) (s : State) (h : (s.ctx k).running = true)
    (hf : f (s.ctx k) = { s.ctx k with
      dwell := (f (s.ctx k)).dwell, confirmSeen := (f (s.ctx k)).confirmSeen, starved := (f (s.ctx k)).starved
      starvedCount := (f (s.ctx k)).starvedCount, levelExcess := (f (s.ctx k)).levelExcess
      followCount := (f (s.ctx k)).followCount, reseed := (f (s.ctx k)).reseed }) : s.moves (s.updCtx k f) :=
  State.moves_updCtx s k f (Strand.Move.note _ _ h hf).moves

theorem State.takeConfirm_moves (k : StrandId) (flag : Bool) (s : State) : s.moves (s.takeConfirm k flag) := by
  unfold State.takeConfirm
  split
  · split
    · next h => exact State.note_moves k _ s h.2.1 rfl
    · exact .refl s
  · exact .refl s

theorem Strand.gateLevel_moves (i : Image) (p : Profile) (d : Nat) (x : Strand) :
    Strand.Moves i x { x with ctx := x.ctx.gateLevel p d } := by
  unfold Context.gateLevel
  split
  · exact .single (.add x .level)
  · split
    · exact .single (.remove x (r := .level) (by simp))
    · exact .refl

@[simp] theorem Context.gateLevel_running (p : Profile) (d : Nat) (c : Context) : (c.gateLevel p d).running = c.running := by
  unfold Context.gateLevel; split <;> (try split) <;> simp

theorem State.levelGate_moves (k : StrandId) (level : Int) (s : State) : s.moves (s.levelGate k level) := by
  unfold State.levelGate
  split
  · next h =>
    have hg := State.moves_updCtx s k
      (fun c => (c.gateLevel (s.profileOf (s.ctx k)) level.natAbs).countExcess (s.profileOf (s.ctx k)) level.natAbs)
      (.tail (Strand.gateLevel_moves _ _ _ _) (.note _ _ (by simpa [State.ctx] using h.1) rfl))
    dsimp only
    split
    · exact hg.trans (State.tripAll_moves _ _ _)
    · exact hg
  · exact .refl s

theorem State.takeSensor_moves (k : StrandId) (x : SensorReading) (s : State) : s.moves (s.takeSensor k x) := by
  unfold State.takeSensor
  split
  · exact .refl s
  · exact ((State.setInput_moves k _ s).trans (State.takeBreakout_moves k _ _ _)).trans
      ((State.moves_updCtx _ k _ (Strand.sensorChange_moves _ _ _ _)).trans
        ((State.takeConfirm_moves k _ _).trans (State.levelGate_moves k _ _)))

theorem Input.age_nodata (window : Nat) (i : Input) : (i.age window).loss = .nodata ↔ i.loss = .nodata := by
  unfold Input.age
  split
  · dsimp only; split <;> simp [*]
  · rfl

/-- The plant input ages: its loss state is NODATA as before. -/
theorem State.agePlant_moves (window : Nat) (s : State) :
    s.moves (s.setPlantInput { s.plantIn with inp := s.plantIn.inp.age window }) := by
  have h : s.moves { s with plantIn := { s.plantIn with inp := s.plantIn.inp.age window } } := by
    refine State.moves_of_strands ?_ rfl
    simp only [State.frame, Input.age_nodata]
  exact h.raiseLoss _ _ _ _

theorem State.ageStrand_moves (k : StrandId) (s : State) : s.moves (s.ageStrand k) := State.sense_moves k _ _ s

theorem State.inputBeat_moves (s : State) : s.moves s.inputBeat := by
  have h : s.moves (forStrands strandIds State.ageStrand s) :=
    forStrands_moves _ _ s fun k _ t _ => State.ageStrand_moves k t
  exact h.trans (State.agePlant_moves _ _)

theorem State.countFollow_moves (acc : Nat) (k : StrandId) (s : State) : s.moves (s.countFollow acc k) := by
  unfold State.countFollow
  split
  · next h => exact State.note_moves k _ s (Context.realRun_iff _ |>.mp h).1 rfl
  · exact .refl s

theorem State.followBeat_moves (i : Nat) (acc : StrandId → Nat) (s : State) : s.moves (s.followBeat i acc) :=
  (forStrands_moves _ _ s fun k _ t _ => State.countFollow_moves (acc k) k t).trans (State.tripAll_moves _ _ _)

/-! ## Handback and claims -/

theorem State.leaveByHandback_moves (k : StrandId) (s : State) (h : (s.ctx k).running = true)
    (he : (s.ctx k).enrolled = false) : s.moves (s.leaveByHandback k) := by
  unfold State.leaveByHandback
  split
  · have hp : (s.ctx k).state ≠ .passive := by intro e; simp [Context.running, e] at h
    exact (State.moves_upd s k _ (Strand.Move.leave _ _ _ _ hp).moves).raise _ _ _
  · next hs => exact State.moves_upd s k _ (Strand.Move.handback _ _ ((Context.realRun_iff _).mpr ⟨h, by simpa [State.ctx] using hs⟩) he).moves

theorem State.completeBlend_moves (k : StrandId) (claim : Bool) (s : State) (h : (s.ctx k).state = .handback) :
    s.moves (s.completeBlend k claim) := by
  have hl : s.moves (s.upd k fun x => { x.enterTracking with claimDue := x.claimDue || claim }) :=
    State.moves_upd s k _ (Strand.Move.leave _ _ (s.strand k).observed _ (by simp [show (s.strand k).ctx.state = _ from h])).moves
  unfold State.completeBlend
  dsimp only
  split
  · exact (hl.raise _ _ _).raise _ _ _
  · exact hl.raise _ _ _

theorem State.blendStep_moves (k : StrandId) (s : State) : s.moves (s.blendStep k) := by
  unfold State.blendStep
  split
  · next b h _ =>
    have hb : s.moves (s.upd k fun x => { x with blend := some { b with k := b.k + 1 }, grant := s.blendGrant x b (b.k + 1) }) :=
      State.moves_upd s k _ (Strand.Move.blend _ _ _ h rfl).moves
    dsimp only
    split
    · exact hb.trans (State.completeBlend_moves k _ _ (by simpa [State.ctx] using h))
    · exact hb
  · exact .refl s

theorem State.grantClaim_moves (k : StrandId) (s : State) (h : (s.ctx k).realRun = true) : s.moves (s.grantClaim k) := by
  have hp : (s.ctx k).state ≠ .passive := by intro e; simp [Context.realRun, Context.running, e] at h
  exact ((State.moves_upd s k _ (Strand.Move.leave _ _ _ _ hp).moves).trans (State.settleChange_moves _)).raise _ _ _

theorem Strand.latch_moves (i : Image) {x : Strand} (h : x.ctx.state = .handback) :
    Strand.Moves i x { x with blend := x.blend.map fun b => { b with claim := true } } := by
  cases hb : x.blend with
  | none =>
    have e : { x with blend := none } = x := by rw [← hb]
    rw [Option.map_none, e]
  | some b => exact (Strand.Move.latch _ _ h).moves

theorem State.takeClaim_moves (k : StrandId) (s : State) : s.moves (s.takeClaim k).state := by
  unfold State.takeClaim
  split
  · next h => exact State.grantClaim_moves k s h
  · split
    · next h =>
      exact State.moves_upd s k (fun x => { x with blend := x.blend.map fun b => { b with claim := true } }) (Strand.latch_moves _ h)
    · exact State.moves_of_strands rfl rfl
    · exact .refl s

end Sys2Proof.Machine

/-! The admission pass and the beat, as moves of the strands. -/

namespace Sys2Proof.Machine

/-! ## The admission pass -/

/-- From s to t nothing changes but grant records of strands, each under the tables of s. -/
structure State.regrants (s t : State) : Prop where
  moves : s.moves t
  same : ∀ k, t.strand k = { s.strand k with grant := (t.strand k).grant, shadowGrant := (t.strand k).shadowGrant }

theorem State.regrants.ctx {s t : State} (h : s.regrants t) (k : StrandId) : t.ctx k = s.ctx k := by
  unfold State.ctx; rw [h.same k]

theorem State.regrants.refl (s : State) : s.regrants s := ⟨.refl s, fun _ => rfl⟩

theorem State.regrants.trans {s t u : State} (h : s.regrants t) (g : t.regrants u) : s.regrants u :=
  ⟨h.moves.trans g.moves, fun k => by rw [g.same k, h.same k]⟩

theorem State.setGrant_regrants (s : State) (k : StrandId) (v : Nat) (t : TableId) (h : (s.ctx k).realRun = true) :
    s.regrants (s.setGrant k (s.grantFor v t)) :=
  ⟨State.moves_upd s k _ (Strand.Move.grant _ v t h).moves, fun j => by
    unfold State.setGrant; rw [State.strand_upd]; split <;> simp [*]⟩

theorem State.setShadowGrant_regrants (s : State) (k : StrandId) (v : Nat) (t : TableId) (h : (s.ctx k).shadowRun = true) :
    s.regrants (s.setShadowGrant k (s.grantFor v t)) :=
  ⟨State.moves_upd s k _ (Strand.Move.shadowGrant _ v t h).moves, fun j => by
    unfold State.setShadowGrant; rw [State.strand_upd]; split <;> simp [*]⟩

/-- A pass that began its phases at s has only regranted, and its answers are to requests of running strands of s. -/
structure PassPoint.from (s : State) (p : PassPoint) : Prop where
  state : s.regrants p.state
  answers : ∀ av ∈ p.answers, (s.ctx av.1.strand).running = true ∧ av.1 = s.askOf av.1.strand

/-- One more answer, after a regrant. -/
theorem PassPoint.from.note {s : State} {p : PassPoint} (h : p.from s) {t : State} (ht : p.state.regrants t)
    {k : StrandId} (hk : (s.ctx k).running = true) (won : List StrandId) (sum : Nat) (v : Verdict) :
    (PassPoint.note { state := t, answers := p.answers, won, sum } (s.askOf k) v).from s := by
  refine ⟨h.state.trans ht, fun av hav => ?_⟩
  rcases List.mem_append.mp hav with h' | h'
  · exact h.answers av h'
  · rw [List.mem_singleton.mp h']; exact ⟨hk, rfl⟩

/-- The grant a request asks for, at a later point of the pass. -/
theorem State.askOf_grant {s t : State} (h : t.working = s.working) (k : StrandId) :
    (s.askOf k).grant = t.grantFor (s.candidate k / 64) (s.effectiveTable k) := by
  rw [← State.grantFor_alone t, h]; rfl

theorem PassPoint.from.realRun {s : State} {p : PassPoint} (h : p.from s) {k : StrandId} (hk : (s.ctx k).realRun = true) :
    (p.state.ctx k).realRun = true := by rw [h.state.ctx]; exact hk

theorem PassPoint.from.ask {s : State} {p : PassPoint} (h : p.from s) {k : StrandId} (hk : (s.ctx k).realRun = true) :
    p.state.regrants (p.state.setGrant k (s.askOf k).grant) := by
  rw [State.askOf_grant h.state.moves.working k]
  exact State.setGrant_regrants _ k _ _ (h.realRun hk)

theorem PassPoint.from.grantEasy {s : State} {p : PassPoint} (h : p.from s) {k : StrandId} (hk : (s.ctx k).realRun = true) :
    (p.grantEasy (s.askOf k)).from s :=
  h.note (h.ask hk) ((Context.realRun_iff _).mp hk).1 _ _ _

theorem PassPoint.from.visit {s : State} {p : PassPoint} (h : p.from s) (budget : Nat) {k : StrandId}
    (hk : (s.ctx k).realRun = true) : (p.visit budget (s.askOf k)).from s := by
  unfold PassPoint.visit
  split
  · exact h.note (h.ask hk) ((Context.realRun_iff _).mp hk).1 _ _ _
  · exact h

theorem PassPoint.from.fallBack {s : State} {p : PassPoint} (h : p.from s) {k : StrandId} (hk : (s.ctx k).realRun = true) :
    (p.fallBack (s.askOf k)).from s := by
  have hr := ((Context.realRun_iff _).mp hk).1
  unfold PassPoint.fallBack
  dsimp only
  split
  · split
    · exact h.note (State.setGrant_regrants _ k _ _ (h.realRun hk)) hr _ _ _
    · exact h.note (.refl _) hr _ _ _
  · exact h.note (.refl _) hr _ _ _

theorem PassPoint.from.visitShadow {s : State} {p : PassPoint} (h : p.from s) (budget : Nat) {k : StrandId}
    (hk : (s.ctx k).shadowRun = true) : (p.visitShadow budget (s.askOf k)).from s := by
  have hr := ((Context.shadowRun_iff _).mp hk).1
  have hs : (p.state.ctx k).shadowRun = true := by rw [h.state.ctx]; exact hk
  have ha : p.state.regrants (p.state.setShadowGrant k (s.askOf k).grant) := by
    rw [State.askOf_grant h.state.moves.working k]
    exact State.setShadowGrant_regrants _ k _ _ hs
  unfold PassPoint.visitShadow
  dsimp only
  split
  · exact h.note ha hr _ _ _
  · split
    · split
      · exact h.note (State.setShadowGrant_regrants _ k _ _ hs) hr _ _ _
      · exact h.note (.refl _) hr _ _ _
    · exact h.note (.refl _) hr _ _ _

/-- A step that keeps the pass from s, taken for the requests of a list. -/
theorem PassPoint.from.foldl {s : State} (f : PassPoint → Ask → PassPoint) (l : List Ask)
    (hf : ∀ a ∈ l, ∀ p : PassPoint, p.from s → (f p a).from s) : ∀ p : PassPoint, p.from s → (l.foldl f p).from s := by
  induction l with
  | nil => intro p hp; exact hp
  | cons a l ih =>
    intro p hp
    exact ih (fun b hb => hf b (List.mem_cons_of_mem _ hb)) _ (hf a List.mem_cons_self p hp)

theorem State.phases_from (s : State) : s.phases.from s := by
  have real : ∀ {l : List Ask} {a : Ask}, l.Sublist ((s.arbiterOrder.filter fun k => (s.ctx k).realRun).map s.askOf) → a ∈ l →
      ∃ k, (s.ctx k).realRun = true ∧ a = s.askOf k := by
    intro l a hl ha
    obtain ⟨k, hk, rfl⟩ := List.mem_map.mp (hl.subset ha)
    exact ⟨k, (List.mem_filter.mp hk).2, rfl⟩
  unfold State.phases
  refine PassPoint.from.foldl _ _ ?_ _ (PassPoint.from.foldl _ _ ?_ _ (PassPoint.from.foldl _ _ ?_ _
    (PassPoint.from.foldl _ _ ?_ _ ⟨.refl s, by simp⟩)))
  · intro a ha p hp
    obtain ⟨k, hk, rfl⟩ := List.mem_map.mp ha
    exact hp.visitShadow _ (List.mem_filter.mp hk).2
  · intro a ha p hp
    obtain ⟨k, hk, rfl⟩ := real (List.filter_sublist.trans List.filter_sublist) ha
    exact hp.fallBack hk
  · intro a ha p hp
    obtain ⟨k, hk, rfl⟩ := real List.filter_sublist ha
    exact hp.visit _ hk
  · intro a ha p hp
    obtain ⟨k, hk, rfl⟩ := real List.filter_sublist ha
    exact hp.grantEasy hk

theorem stepTowards_le (a t r : Nat) : stepTowards a t r ≤ a ∨ stepTowards a t r ≤ t := by
  unfold stepTowards
  split
  · exact .inr (Nat.min_le_right _ _)
  · split
    · omega
    · exact .inl (Nat.le_refl a)

/-- A candidate is no further than A, the effective target or the low mark (R38, R39). -/
theorem State.candidate_le (s : State) (k : StrandId) :
    s.candidate k ≤ (s.ctx k).acc ∨ (∃ v, (s.ctx k).target = some v ∧ s.candidate k ≤ v * 64)
      ∨ ∃ m, (s.strand k).mark = some m ∧ s.candidate k ≤ m := by
  have target : s.stepTarget k ≤ (s.ctx k).acc ∨ (∃ v, (s.ctx k).target = some v ∧ s.stepTarget k ≤ v * 64)
      ∨ ∃ m, (s.strand k).mark = some m ∧ s.stepTarget k ≤ m := by
    unfold State.stepTarget State.ctx
    dsimp only
    split
    · cases (s.strand k).mark <;> simp
    · split
      · exact .inl (Nat.le_refl _)
      · split
        · next v hv => exact .inr (.inl ⟨v, hv, Nat.le_refl _⟩)
        · exact .inl (Nat.le_refl _)
  unfold State.candidate
  dsimp only
  split
  · rcases stepTowards_le (s.ctx k).acc (s.stepTarget k) ((s.ctx k).rate.getD 0) with h | h
    · exact .inl h
    · rcases target with h' | ⟨v, hv, h'⟩ | ⟨m, hm, h'⟩
      · exact .inl (h.trans h')
      · exact .inr (.inl ⟨v, hv, h.trans h'⟩)
      · exact .inr (.inr ⟨m, hm, h.trans h'⟩)
  · exact .inl (Nat.le_refl _)

/-- The results of a pass at one strand are an advance to the candidate, or none, and its starving count. -/
theorem Strand.takeResult_moves (i : Image) (x : Strand) (a : Nat) (v : Verdict) (h : x.ctx.running = true)
    (ha : a ≤ x.ctx.acc ∨ (∃ v, x.ctx.target = some v ∧ a ≤ v * 64) ∨ ∃ m, x.mark = some m ∧ a ≤ m) :
    Strand.Moves i x { x with ctx := x.ctx.takeResult a v } := by
  cases v with
  | asAsked => exact .tail (.single (.advance x a h ha)) (.note _ _ h rfl)
  | fallback => exact .tail (.single (.advance x a h ha)) (.note _ _ h rfl)
  | refused => exact .single (.note x _ h rfl)

/-- Between s and t the strands have taken results of a pass that began its phases at s: what a candidate of s may reach is still
the same. -/
def State.takingResults (s t : State) : Prop :=
  ∀ k, (t.ctx k).running = (s.ctx k).running ∧ (t.ctx k).target = (s.ctx k).target ∧ (t.strand k).mark = (s.strand k).mark
    ∧ ((t.ctx k).acc = (s.ctx k).acc ∨ (t.ctx k).acc = s.candidate k)

theorem Context.takeResult_fields (a : Nat) (v : Verdict) (c : Context) :
    (c.takeResult a v).running = c.running ∧ (c.takeResult a v).target = c.target
      ∧ ((c.takeResult a v).acc = c.acc ∨ (c.takeResult a v).acc = a) := by
  cases v
  · exact ⟨rfl, rfl, .inr rfl⟩
  · exact ⟨rfl, rfl, .inr rfl⟩
  · exact ⟨rfl, rfl, .inl rfl⟩

theorem State.takeResult_moves {s t : State} (h : s.takingResults t) {k : StrandId} (hk : (s.ctx k).running = true)
    (v : Verdict) : t.moves (t.updCtx k (Context.takeResult (s.candidate k) v))
      ∧ s.takingResults (t.updCtx k (Context.takeResult (s.candidate k) v)) := by
  obtain ⟨hrun, htar, hmark, hacc⟩ := h k
  refine ⟨State.moves_updCtx t k _ (Strand.takeResult_moves _ _ _ v (hrun.trans hk) ?_), fun j => ?_⟩
  · rcases State.candidate_le s k with h' | ⟨v, hv, h'⟩ | ⟨m, hm, h'⟩
    · refine .inl ?_
      rcases hacc with e | e
      · rw [show (t.strand k).ctx.acc = _ from e]; exact h'
      · rw [show (t.strand k).ctx.acc = _ from e]
    · exact .inr (.inl ⟨v, htar.trans hv, h'⟩)
    · exact .inr (.inr ⟨m, hmark.trans hm, h'⟩)
  · by_cases hj : j = k
    · subst hj
      obtain ⟨f1, f2, f3⟩ := Context.takeResult_fields (s.candidate j) v (t.ctx j)
      rw [State.ctx_updCtx, if_pos rfl]
      refine ⟨f1.trans hrun, f2.trans htar, by simpa [State.updCtx] using hmark, ?_⟩
      rcases f3 with e | e
      · rw [e]; exact hacc
      · exact .inr e
    · rw [State.ctx_updCtx, if_neg hj]
      simpa [State.updCtx, hj] using h j

theorem State.takeResults_moves {s : State} (answers : List (Ask × Verdict))
    (ha : ∀ av ∈ answers, (s.ctx av.1.strand).running = true ∧ av.1 = s.askOf av.1.strand) :
    ∀ t : State, s.takingResults t → t.moves (t.takeResults answers) := by
  unfold State.takeResults
  induction answers with
  | nil => intro t _; exact .refl t
  | cons av l ih =>
    intro t ht
    obtain ⟨hr, he⟩ := ha av List.mem_cons_self
    have hc : av.1.cand = s.candidate av.1.strand := by rw [he]; rfl
    obtain ⟨h1, h2⟩ := State.takeResult_moves ht hr av.2
    rw [← hc] at h1 h2
    exact h1.trans (ih (fun b hb => ha b (List.mem_cons_of_mem _ hb)) _ h2)

theorem State.completionTest_moves (k : StrandId) (s : State) : s.moves (s.completionTest k) := by
  rcases State.completionTest_cases k s with
    ⟨h, -⟩ | ⟨p, n, hp, hn, hs, he, -, ⟨n', hn', h⟩ | ⟨-, -, h⟩ | ⟨-, -, hsh, h⟩ | ⟨-, -, -, h⟩⟩ <;> rw [h]
  · exact .refl s
  · refine State.enterSegment_moves k n' s fun p' hp' => .inr ⟨n, hn, ?_⟩
    rw [hp] at hp'; cases hp'; exact hn'
  · exact (State.moves_updCtx s k _ (Strand.Move.finish _ ((Context.running_iff _).mpr (.inl hs))).moves).raise _ _ _
  · exact State.moves_upd s k _
      (Strand.Move.handback _ _ ((Context.realRun_iff _).mpr ⟨(Context.running_iff _).mpr (.inl hs), hsh⟩) he).moves
  · exact (State.moves_upd s k _
      (Strand.Move.leave _ _ _ _ (by rw [show (s.strand k).ctx.state = _ from hs]; simp)).moves).raise _ _ _

theorem State.countDwell_moves (k : StrandId) (s : State) : s.moves (s.updCtx k Context.countDwell) := by
  by_cases h : (s.ctx k).state = .ramping ∧ (s.ctx k).segment ≠ some .atEnd
  · have e : (s.ctx k).countDwell = { s.ctx k with dwell := satInc (s.ctx k).dwell } := if_pos h
    exact State.note_moves k _ s ((Context.running_iff _).mpr (.inl h.1)) (by rw [e])
  · have e : (s.ctx k).countDwell = s.ctx k := if_neg h
    exact State.moves_updCtx s k _ (by rw [e]; exact .refl)

theorem State.movePointer_moves (won : List StrandId) (s : State) : s.moves (s.movePointer won) := by
  unfold State.movePointer
  split
  · exact State.moves_of_strands rfl rfl
  · exact .refl s

theorem State.raiseStarved_moves (l : List (StrandId × Bool)) (s : State) : s.moves (s.raiseStarved l) := by
  obtain ⟨h1, h2⟩ := State.raiseStarved_near l s
  exact ⟨State.frame_of_near h1, fun k => by rw [h2 k]⟩

theorem State.countDeficit_moves (s : State) : s.moves s.countDeficit := by
  have h : ∀ n, s.moves { s with deficit := n } := fun n => State.moves_of_strands rfl rfl
  unfold State.countDeficit
  split
  · dsimp only
    split
    · exact (h _).raise _ _ _
    · exact h _
  · exact h _

/-- The close of a pass, from its completion tests on. -/
theorem State.close_moves (rank : StrandId → Nat) (won : List StrandId) (starving : List (StrandId × Bool)) (s : State) :
    s.moves (((forStrands (orderBy rank strandIds) State.completionTest s).movePointer won).raiseStarved
      starving).countDeficit :=
  (forStrands_moves _ _ s fun k _ t _ => State.completionTest_moves k t).trans
    ((State.movePointer_moves _ _).trans ((State.raiseStarved_moves _ _).trans (State.countDeficit_moves _)))

/-- The phases of a pass with their results. -/
theorem State.results_moves (s : State) : s.moves (s.phases.state.takeResults s.phases.answers) := by
  have hp := State.phases_from s
  refine hp.state.moves.trans (State.takeResults_moves s.phases.answers hp.answers _ fun k => ?_)
  rw [hp.state.ctx k]
  exact ⟨rfl, rfl, by rw [hp.state.same k], .inl rfl⟩

theorem State.admissionPass_moves (i : Nat) (s : State) : s.moves (s.admissionPass i) := by
  have h1 : s.moves { s with budget := s.formBudget } := State.moves_of_strands rfl rfl
  have h2 := h1.trans (forStrands_moves (orderBy (Config.strandRank i .blendSteps) strandIds) State.blendStep _
    fun k _ t _ => State.blendStep_moves k t)
  have h3 := h2.trans (forStrands_moves strandIds (fun k s => s.updCtx k Context.countDwell) _
    fun k _ t _ => State.countDwell_moves k t)
  unfold State.admissionPass
  dsimp only
  generalize forStrands strandIds _ (forStrands _ _ _) = s3 at h3 ⊢
  exact h3.trans ((State.results_moves s3).trans (State.close_moves _ _ _ _))

/-! ## The beat -/

theorem State.originStep_moves (k : StrandId) (s : State) : s.moves (s.originStep k) := by
  unfold State.originStep
  split
  · next h =>
    have hs : s.moves (s.upd k Strand.countSilence) := State.moves_upd s k _ (Strand.Move.silence _ h).moves
    have hr : s.moves (if (s.strand k).silence + 1 = 2 then (s.upd k Strand.countSilence).raise .originate (some k) 0
        else s.upd k Strand.countSilence) := by
      split
      · exact hs.raise _ _ _
      · exact hs
    dsimp only
    split
    · exact hr.then rfl rfl
    · exact hr
  · exact .refl s

theorem State.countRetired_moves (s : State) : s.moves s.countRetired := State.moves_of_strands rfl rfl

theorem State.send_moves (f : Frame) (s : State) : s.moves (s.send f) := State.moves_of_strands rfl rfl

theorem State.count_moves (f : Counters → Counters) (s : State) : s.moves (s.count f) := State.moves_of_strands rfl rfl

theorem State.reply_moves (c : Word) (q : ReqHead) (r : Result) (d : List Word) (s : State) : s.moves (s.reply c q r d) :=
  State.moves_of_strands rfl rfl

theorem State.sendBeat_moves (s : State) : s.moves s.sendBeat := by
  unfold State.sendBeat
  split
  · exact State.send_moves _ s
  · exact .refl s

theorem State.lineBeat_moves (s : State) : s.moves s.lineBeat :=
  ((State.countRetired_moves s).trans (State.sendBeat_moves _)).trans
    (forStrands_moves _ _ _ fun k _ t _ => State.originStep_moves k t)

theorem State.blockBeat_moves (i : Nat) (acc : StrandId → Nat) (b : Block) (s : State) : s.moves (s.blockBeat i acc b) := by
  cases b
  · exact State.followBeat_moves i acc s
  · exact State.admissionPass_moves i s
  · exact State.inputBeat_moves s
  · exact State.changeBeat_moves s
  · exact State.dipBeat_moves s
  · exact State.lineBeat_moves s

theorem State.blocks_moves (i : Nat) (acc : StrandId → Nat) (order : List Block) :
    ∀ s : State, s.moves (order.foldl (State.blockBeat i acc) s) := by
  induction order with
  | nil => exact State.moves.refl
  | cons b l ih => exact fun s => (State.blockBeat_moves i acc b s).trans (ih _)

theorem State.deliverBeat_moves (s : State) : s.moves s.deliverBeat := by
  have h : s.moves { s with beats := s.beats + 1, fresh := s.fresh + 1 } := State.moves_of_strands rfl rfl
  exact h.trans (State.blocks_moves _ _ _ _)

theorem State.removeEverywhere_moves {r : Reason} (h : r ≠ .command) (s : State) : s.moves (s.removeEverywhere r) :=
  forStrands_moves _ _ _ fun k _ t _ => State.moves_updCtx t k _ (Strand.Move.remove _ h).moves

theorem State.addEverywhere_moves (r : Reason) (s : State) : s.moves (s.addEverywhere r) :=
  forStrands_moves _ _ _ fun k _ t _ => State.moves_updCtx t k _ (Strand.Move.add _ r).moves

/-! ## Frames of the owned slots -/

theorem State.sensorFrame_moves (k : StrandId) (f : Frame) (s : State) : s.moves (s.sensorFrame k f) := by
  unfold State.sensorFrame
  split
  · split
    · exact State.send_moves f s
    · exact (State.send_moves f s).trans (State.takeSensor_moves k _ _)
  · exact State.send_moves f s

theorem State.sendActuator_moves (k : StrandId) (f : Frame) (vs : List Word) (c : Word) (g : Bool) (s : State) :
    s.moves (s.sendActuator k f vs c g) := by
  unfold State.sendActuator
  dsimp only
  split
  · exact State.send_moves _ s
  · next h =>
    exact (State.moves_upd s k (fun x => { x with ctx := { x.ctx with releasePending := false }, claimDue := false })
      (Strand.Move.answered _ (by simpa using h)).moves).then rfl rfl

/-- A master frame is observed, and taken as a claim where it carries one (R139, R153). -/
theorem State.observed_moves (k : StrandId) (o : Observed) (claim : Bool) (s : State) :
    s.moves (if claim then (s.upd k (Strand.observe o)).takeClaim k else ⟨s.upd k (Strand.observe o), false⟩).state := by
  have ho := State.moves_upd s k (Strand.observe o) (Strand.Move.observe _ o).moves
  split
  · exact ho.trans (State.takeClaim_moves k _)
  · exact ho

theorem State.actuatorFrame_moves (k : StrandId) (f : Frame) (s : State) : s.moves (s.actuatorFrame k f) := by
  unfold State.actuatorFrame
  split
  · split
    · exact State.send_moves f s
    · exact (State.observed_moves k _ _ s).trans (State.sendActuator_moves k f _ _ _ _)
  · exact State.send_moves f s

theorem State.statusFrame_moves (f : Frame) (s : State) : s.moves (s.statusFrame f) := State.send_moves _ s

end Sys2Proof.Machine

/-! What a command can do: every command is a chain of effects, each an event of one block. -/

namespace Sys2Proof.Machine

/-! ## Effects -/

/-- One effect of a command on everything but the queue. `runs` says whether the command may begin a run or release a COMMAND
hold. -/
inductive State.Effect (runs : Prop) (s : State) : State → Prop where
  /-- strands move, and nothing of the frame changes -/
  | moves {t : State} (h : s.moves t) : Effect runs s t
  /-- the Beat Unit changes its sources or flags, and strands move (R121 to R126, R129) -/
  | beatUnit {t : State} (current : Source) (switchTo : Option Source) (fail : Bool) (localNext : Option Nat)
      (strands : ∀ k, Strand.Moves s.working (s.strand k) (t.strand k))
      (frame : t.frame = { s.frame with current, switchTo, fail, localNext })
      (started : s.loading = false ∨ s.localNext.isSome = true)
      (failing : fail = true → current = .localGen ∨ s.fail = true ∧ current = s.current)
      (pending : ∀ src, switchTo = some src → src ≠ current ∨ s.switchTo = some src ∧ current = s.current) : Effect runs s t
  /-- the plant input or the dip state changes, and strands move (R79, R107, R111, R151) -/
  | dip {t : State} (dip : DipState) (flag : Bool) (loss : LossState)
      (strands : ∀ k, Strand.Moves s.working (s.strand k) (t.strand k))
      (frame : t.frame = { s.frame with dip, plantIn := { dip := flag, inp := { loss } } })
      (follows : dip = s.dip ∧ flag = s.plantIn.dip ∨ (dip = .dipped ↔ flag = true))
      (seen : loss = .nodata → flag = false) : Effect runs s t
  /-- the Profile Store changes the latch, the store operation, an image or the one-time area; the slot map stays, the limits stay
  while they are in use, and so does a cooling table (R160 to R166) -/
  | store {t : State} (same : t.strands = s.strands)
      (frame : t.frame = { s.frame with
        working := t.working, stored := t.stored, incomplete := t.incomplete, oneTime := t.oneTime
        latchOpen := t.latchOpen, op := t.op })
      (started : s.loading = false ∨ s.op ≠ .idle)
      (map : t.working.config.slotBase = s.working.config.slotBase ∧ t.working.config.mask = s.working.config.mask)
      (limits : t.working.limits = s.working.limits ∨ s.limitsInUse = false)
      (tables : ∀ n : TableId, t.working.tables[n] = s.working.tables[n] ∨ s.tableInUse n = false)
      (commit : (t.op = s.op ∧ t.incomplete = s.incomplete) ∨ ∀ i, t.op = .commit i → t.incomplete = true) : Effect runs s t
  /-- the slot map changes; a strand that is not PASSIVE stays in it (R151) -/
  | map (base : Option Nat) (mask : Option Byte) (started : s.loading = false)
      (kept : ∀ k, (s.ctx k).state ≠ .passive → s.working.config.mapActive = true → s.working.config.inMask k = true →
        { s.working.config with slotBase := base, mask }.mapActive = true
          ∧ { s.working.config with slotBase := base, mask }.inMask k = true) :
      Effect runs s (s.setConfig fun c => { c with slotBase := base, mask })
  /-- TRACK (R7) -/
  | track (w : Word) (k : StrandId) (started : s.loading = false) (named : s.names w k) (h : (s.ctx k).state = .passive) :
      Effect runs s (s.upd k fun x => { x with ctx := x.ctx.toTracking, observed := none })
  /-- START (R9 to R13) -/
  | start (hr : runs) (w : Word) (k : StrandId) (p : ProfileId) (shadow : Bool) (v : Nat) (lim : Limits)
      (started : s.loading = false) (named : s.names w k) (h : (s.ctx k).state = .passive ∨ (s.ctx k).state = .tracking)
      (clear : s.change = .clear) (limits : s.limits = some lim) (valid : (s.working.profile p).valid = true) :
      Effect runs s (s.beginRun k p shadow v lim)
  /-- RELEASE (R20) -/
  | release (hr : runs) (k : StrandId) : Effect runs s (s.updCtx k (Context.removeReason .command))
  /-- COOL_PIN (R51) -/
  | pin (k : StrandId) (o : Option TableId) (started : s.loading = false) (valid : ∀ n, o = some n → (s.working.tables[n]).valid = true) :
      Effect runs s (s.upd k fun x => { x with pin := o })
  | warmReset : Effect runs s s.warmReset
  | powerOn : Effect runs s s.powerOn
  | endLoad (t : Nat) (h : s.loading = true) : Effect runs s (s.endLoad t)

/-- A chain of effects. -/
abbrev State.Effects (runs : Prop) : State → State → Prop := Relation.ReflTransGen (State.Effect runs)

theorem State.moves.effects {runs : Prop} {s t : State} (h : s.moves t) : State.Effects runs s t := .single (.moves h)

theorem State.Effect.mono {p q : Prop} (hpq : p → q) {s t : State} (h : State.Effect p s t) : State.Effect q s t := by
  cases h with
  | moves h => exact .moves h
  | beatUnit a b c d e f g h i => exact .beatUnit a b c d e f g h i
  | dip a b c d e f g => exact .dip a b c d e f g
  | store a b c d e f g => exact .store a b c d e f g
  | map a b c d => exact .map a b c d
  | track a b c d e => exact .track a b c d e
  | start hr a b c d e f g h i j k l => exact .start (hpq hr) a b c d e f g h i j k l
  | release hr k => exact .release (hpq hr) k
  | pin a b c d => exact .pin a b c d
  | warmReset => exact .warmReset
  | powerOn => exact .powerOn
  | endLoad t h => exact .endLoad t h

theorem State.Effects.mono {p q : Prop} (hpq : p → q) {s t : State} (h : State.Effects p s t) : State.Effects q s t :=
  Relation.ReflTransGen.mono (fun _ _ => State.Effect.mono hpq) _ _ h

/-- A property that every effect keeps is kept by a chain of effects. -/
theorem State.Effects.keeps {runs : Prop} {P : State → Prop} (hP : ∀ s t, State.Effect runs s t → P s → P t) {s t : State}
    (h : State.Effects runs s t) (hs : P s) : P t := by
  induction h with
  | refl => exact hs
  | tail _ he ih => exact hP _ _ he ih

/-! ## Requests -/

section
variable {runs : Prop} {s t : State} {d : List Word}

/-- A request has the effects of its owning rule, where that accepts it, and its reply. -/
theorem State.answer_effects (code : Word) (q : ReqHead) {body : State → Answer}
    (h : s.loading = false → ∀ t d, body s = .ok (t, d) → State.Effects runs s t) :
    State.Effects runs s (s.answer code q body) := by
  rcases State.answer_cases s code q body with ⟨-, e⟩ | ⟨-, -, e⟩ | ⟨-, hl, ⟨r, -, e⟩ | ⟨t, d, hb, e⟩⟩
  · rw [e]
  · exact e ▸ (State.reply_moves _ _ _ _ s).effects
  · exact e ▸ (State.reply_moves _ _ _ _ s).effects
  · exact e ▸ (h hl t d hb).trans (State.reply_moves _ _ _ _ t).effects

theorem State.refuse_effects (code : Word) (q : ReqHead) (r : Result) (f : Counters → Counters) :
    State.Effects runs s ((s.count f).reply code q r []) :=
  ((State.count_moves f s).trans (State.reply_moves _ _ _ _ _)).effects

theorem State.answerSized_effects (code : Word) (q : ReqHead) (ok : Bool) {body : State → Answer}
    (h : s.loading = false → ∀ t d, body s = .ok (t, d) → State.Effects runs s t) :
    State.Effects runs s (s.answerSized code q ok body) := by
  unfold State.answerSized
  split
  · exact .refl
  · split
    · exact State.answer_effects code q h
    · exact State.refuse_effects _ _ _ _

/-- The strand operand of a request is a strand it names (R6). -/
theorem State.names_of_strandOperand {w : Word} {k : StrandId} (h : s.strandOperand w = .ok k) : s.names w k := by
  unfold State.strandOperand at h
  split at h
  · next hm =>
    split at h
    · next j hj =>
      split at h
      · next hin => cases h; exact ⟨hm, strandNumber_eq_some.mp hj, hin⟩
      · cases h
    · cases h
  · cases h

/-- An accepted strand request is accepted by its owning rule for a strand it names (R6). -/
theorem State.strandRequest_ok {w : Word} {body : StrandId → State → Answer} (h : State.strandRequest w body s = .ok (t, d)) :
    ∃ k, s.names w k ∧ body k s = .ok (t, d) := by
  unfold State.strandRequest at h
  split at h
  · next k hk => exact ⟨k, State.names_of_strandOperand hk, h⟩
  · cases h

theorem State.strandRequest_effects (code : Word) (q : ReqHead) (w : Word) {body : StrandId → State → Answer}
    (h : s.loading = false → ∀ k, s.names w k → ∀ t d, body k s = .ok (t, d) → State.Effects runs s t) :
    State.Effects runs s (s.answer code q (State.strandRequest w body)) :=
  State.answer_effects code q fun hl t d hb =>
    have ⟨k, hk, hb⟩ := State.strandRequest_ok hb
    h hl k hk t d hb

/-! ### Strand requests -/

theorem trackBody_effects {w : Word} {k : StrandId} (hl : s.loading = false) (hn : s.names w k)
    (h : trackBody k s = .ok (t, d)) : State.Effects runs s t := by
  unfold trackBody at h
  split at h
  · next hp => cases h; exact .single (.track w k hl hn hp)
  · cases h

theorem untrackBody_effects {k : StrandId} (h : untrackBody k s = .ok (t, d)) : State.Effects runs s t := by
  unfold untrackBody at h
  split at h
  · next hp => cases h; exact (State.moves_upd s k _ (Strand.Move.untrack _ hp).moves).effects
  · cases h

/-- What START has checked when it is accepted (R9, R10). -/
theorem startBody_ok {p sh : Word} {k : StrandId} (h : startBody p sh k s = .ok (t, d)) :
    ∃ n v lim, ((s.ctx k).state = .passive ∨ (s.ctx k).state = .tracking) ∧ s.change = .clear ∧ s.limits = some lim
      ∧ s.validProfile p = some n ∧ (s.strand k).seed = some v ∧ t = s.beginRun k n (sh ≠ 0) v lim := by
  unfold startBody at h
  dsimp only at h
  split at h
  · cases h
  · next hst =>
    split at h
    · cases h
    · next hc =>
      split at h
      · cases h
      · next lim hlim =>
        split at h
        · cases h
        · next n hn =>
          split at h
          · cases h
          · split at h
            · cases h
            · split at h
              · cases h
              · next v hv =>
                cases h
                refine ⟨n, v, lim, ?_, by simpa using hc, hlim, hn, hv, rfl⟩
                by_contra hcon
                exact hst (not_or.mp hcon)

theorem State.validProfile_eq_some {w : Word} {p : ProfileId} :
    s.validProfile w = some p ↔ w.toNat = p.val ∧ (s.working.profile p).valid = true := by
  unfold State.validProfile
  rw [Option.bind_eq_some_iff]
  constructor
  · rintro ⟨n, hn, h⟩
    split at h
    · next hv => cases h; exact ⟨profileNumber_eq_some.mp hn, hv⟩
    · cases h
  · rintro ⟨hw, hv⟩
    exact ⟨p, profileNumber_eq_some.mpr hw, if_pos hv⟩

theorem startBody_effects {w p sh : Word} {k : StrandId} (hr : runs) (hl : s.loading = false) (hn : s.names w k)
    (h : startBody p sh k s = .ok (t, d)) : State.Effects runs s t := by
  obtain ⟨n, v, lim, hst, hc, hlim, hp, -, rfl⟩ := startBody_ok h
  exact .single (.start hr w k n _ v lim hl hn hst hc hlim (State.validProfile_eq_some.mp hp).2)

theorem holdBody_effects {k : StrandId} (h : holdBody k s = .ok (t, d)) : State.Effects runs s t := by
  unfold holdBody at h
  split at h
  · cases h; exact (State.moves_updCtx s k _ (Strand.Move.add _ _).moves).effects
  · cases h

theorem releaseBody_effects {k : StrandId} (hr : runs) (h : releaseBody k s = .ok (t, d)) : State.Effects runs s t := by
  unfold releaseBody at h
  split at h
  · cases h; exact .single (.release hr k)
  · cases h

theorem clearTripBody_effects {k : StrandId} (h : clearTripBody k s = .ok (t, d)) : State.Effects runs s t := by
  unfold clearTripBody at h
  split at h
  · next hs =>
    cases h
    exact (State.moves_upd s k _ (Strand.Move.leave _ _ none true (by rw [show (s.strand k).ctx.state = _ from hs]; simp)).moves).effects
  · cases h

theorem coolPinBody_effects {w : Word} {k : StrandId} (hl : s.loading = false) (h : coolPinBody w k s = .ok (t, d)) :
    State.Effects runs s t := by
  unfold coolPinBody at h
  split at h
  · cases h
  · cases h; exact .single (.pin k none hl nofun)
  · next n _ =>
    split at h
    · next hv => cases h; exact .single (.pin k (some n) hl fun m hm => by cases hm; exact hv)
    · cases h

theorem handbackBody_effects {k : StrandId} (h : handbackBody k s = .ok (t, d)) : State.Effects runs s t := by
  unfold handbackBody at h
  split at h
  · cases h
  · next hr =>
    split at h
    · cases h
    · next he => cases h; exact (State.leaveByHandback_moves k s (by simpa using hr) (by simpa using he)).effects

/-! ### Requests to the coordinator and the Beat Unit -/

theorem changeBeginBody_effects (h : changeBeginBody s = .ok (t, d)) : State.Effects runs s t := by
  unfold changeBeginBody at h
  dsimp only at h
  split at h
  · cases h
  · split at h
    · cases h
    · split at h
      · cases h
      · cases h
        refine State.moves.effects (State.moves.moveChange ?_ _)
        refine (State.moves_change s s.change 0 s.swapCount).trans
          (forStrands_moves_own _ (strandIds_nodup.filter _) _ _ fun k hk u _ e => State.enroll_moves k u ?_)
        rw [State.ctx, e]
        exact (List.mem_filter.mp hk).2

theorem changeCancelBody_effects (h : changeCancelBody s = .ok (t, d)) : State.Effects runs s t := by
  unfold changeCancelBody at h
  split at h
  · cases h; exact (State.cancelLowering_moves s).effects
  · cases h; exact (State.releaseChange_moves s).effects
  · cases h
  · cases h

theorem swapConfirmBody_effects (h : swapConfirmBody s = .ok (t, d)) : State.Effects runs s t := by
  unfold swapConfirmBody at h
  split at h
  · cases h; exact (State.releaseChange_moves s).effects
  · cases h
  · cases h
  · cases h

/-- A change of the configuration beside the slot map. -/
theorem State.setConfig_effects (f : StoredConfig → StoredConfig) (hl : s.loading = false)
    (hf : (f s.working.config).slotBase = s.working.config.slotBase ∧ (f s.working.config).mask = s.working.config.mask) :
    State.Effects runs s (s.setConfig f) :=
  .single (.store rfl rfl (.inl hl) hf (.inl rfl) (fun _ => .inl rfl) (.inl ⟨rfl, rfl⟩))

theorem setArbiterBody_effects {m : Word} {pr : Vector Word 8} (hl : s.loading = false)
    (h : setArbiterBody m pr s = .ok (t, d)) : State.Effects runs s t := by
  unfold setArbiterBody at h
  split at h
  · cases h
  · split at h
    · cases h
    · split at h
      · cases h
      · cases h; exact State.setConfig_effects _ hl ⟨rfl, rfl⟩

/-- A pending target is set to another source than the current one, or ends (R124, R126). -/
theorem State.switchTo_effect (w : Option Source) (hl : s.loading = false) (hw : ∀ src, w = some src → src ≠ s.current) :
    State.Effect runs s { s with switchTo := w } :=
  .beatUnit s.current w s.fail s.localNext (fun _ => .refl) rfl (.inl hl) (fun h => .inr ⟨h, rfl⟩) fun src h => .inl (hw src h)

theorem sourceSelectBody_effects {n keep : Word} (hl : s.loading = false) (h : sourceSelectBody n keep s = .ok (t, d)) :
    State.Effects runs s t := by
  unfold sourceSelectBody at h
  split at h
  · cases h
  · split at h
    · next src keep _ _ =>
      split at h
      · cases h
      · have hk : State.Effects runs s (if keep then s.setConfig fun c => { c with startSource := src } else s) := by
          split
          · exact State.setConfig_effects _ hl ⟨rfl, rfl⟩
          · exact .refl
        have hs : ∀ u : State, u = (if keep then s.setConfig fun c => { c with startSource := src } else s) →
            u.loading = false ∧ u.current = s.current := by
          rintro u rfl; split <;> exact ⟨hl, rfl⟩
        obtain ⟨h1, h2⟩ := hs _ rfl
        dsimp only at h
        split at h
        · cases h; exact hk
        · next hne => cases h; exact hk.tail (State.switchTo_effect _ h1 fun x hx => by cases hx; rw [h2]; exact hne)
    · cases h

theorem sourceCancelBody_effects (hl : s.loading = false) (h : sourceCancelBody s = .ok (t, d)) : State.Effects runs s t := by
  unfold sourceCancelBody at h
  split at h
  · cases h; exact .single (State.switchTo_effect none hl nofun)
  · cases h

theorem sourceFreezeBody_effects (h : sourceFreezeBody s = .ok (t, d)) : State.Effects runs s t := by
  cases h; exact State.moves.effects (State.moves_of_strands rfl rfl)

theorem setBeatPeriodBody_effects {p : Word} {n : Nat} (hl : s.loading = false) (h : setBeatPeriodBody p n s = .ok (t, d)) :
    State.Effects runs s t := by
  unfold setBeatPeriodBody at h
  split at h
  · cases h
  · split at h
    · cases h
    · split at h
      · cases h
      · split at h
        · cases h
        · next period _ =>
          cases h
          refine (State.setConfig_effects (fun c => { c with period }) hl ⟨rfl, rfl⟩).tail ?_
          exact .beatUnit s.current s.switchTo s.fail (some (n + 1000 * period)) (fun _ => .refl) rfl (.inl hl)
            (fun h => .inr ⟨h, rfl⟩) fun src h => .inr ⟨h, rfl⟩

/-- The fail flag ends and BEAT is removed (R122). -/
theorem State.clearFail_moves (s : State) : { s with fail := false }.moves s.clearFail :=
  State.removeEverywhere_moves (by simp) _

theorem failClearBody_effects (hl : s.loading = false) (h : failClearBody s = .ok (t, d)) : State.Effects runs s t := by
  unfold failClearBody at h
  split at h
  · cases h
    split
    · have hm := State.clearFail_moves s
      exact .single (.beatUnit s.current s.switchTo false s.localNext hm.strands hm.frame (.inl hl) nofun
        fun src h => .inr ⟨h, rfl⟩)
    · exact .refl
  · cases h

/-! ### Requests to the store -/

theorem State.latchOpen_effects (b : Bool) (hl : s.loading = false) : State.Effects runs s { s with latchOpen := b } :=
  .single (.store rfl rfl (.inl hl) ⟨rfl, rfl⟩ (.inl rfl) (fun _ => .inl rfl) (.inl ⟨rfl, rfl⟩))

theorem tableOpenBody_effects (hl : s.loading = false) (h : tableOpenBody s = .ok (t, d)) : State.Effects runs s t := by
  unfold tableOpenBody at h
  split at h
  · cases h
  · cases h; exact State.latchOpen_effects true hl

theorem tableCloseBody_effects (hl : s.loading = false) (h : tableCloseBody s = .ok (t, d)) : State.Effects runs s t := by
  cases h; exact State.latchOpen_effects false hl

/-- What TABLE_WRITE has checked when it is accepted, and what it does (R161). -/
theorem State.writeTable_ok {guarded inUse locked : Bool} {image : Option Image}
    (h : s.writeTable guarded inUse locked image = .ok (t, d)) :
    guarded = false ∧ inUse = false ∧ locked = false ∧ s.op = .idle ∧ ∃ i, image = some i ∧ t = { s with working := i } := by
  unfold State.writeTable at h
  split at h
  · cases h
  · split at h
    · cases h
    · next hb =>
      split at h
      · cases h
      · next hg =>
        split at h
        · cases h
        · next hu =>
          split at h
          · cases h
          · next hk =>
            split at h
            · next i => cases h; exact ⟨by simpa using hg, by simpa using hu, by simpa using hk, by simpa [State.busy] using hb, i, rfl, rfl⟩
            · cases h

/-- A write that leaves the configuration, the limits while they are in use, and the tables in use. -/
theorem State.write_effects (i : Image) (hl : s.loading = false) (hc : i.config = s.working.config)
    (hlim : i.limits = s.working.limits ∨ s.limitsInUse = false)
    (htab : ∀ n : TableId, i.tables[n] = s.working.tables[n] ∨ s.tableInUse n = false) :
    State.Effects runs s { s with working := i } :=
  .single (.store rfl rfl (.inl hl) ⟨by rw [← hc], by rw [← hc]⟩ hlim htab (.inl ⟨rfl, rfl⟩))

theorem writeSegmentBody_effects {index : Word} {fields : List Word} (hl : s.loading = false)
    (h : writeSegmentBody index fields s = .ok (t, d)) : State.Effects runs s t := by
  unfold writeSegmentBody at h
  split at h
  · obtain ⟨-, -, -, -, i, hi, rfl⟩ := State.writeTable_ok h
    obtain ⟨g, -, hg⟩ := Option.bind_eq_some_iff.mp hi
    unfold Image.putSegment at hg
    dsimp only at hg
    split at hg
    · cases hg; exact State.write_effects _ hl rfl (.inl rfl) fun _ => .inl rfl
    · cases hg
  · obtain ⟨-, -, -, -, i, hi, -⟩ := State.writeTable_ok h
    cases hi

theorem writeProfileBody_effects {index : Word} {fields : List Word} (hl : s.loading = false)
    (h : writeProfileBody index fields s = .ok (t, d)) : State.Effects runs s t := by
  unfold writeProfileBody at h
  split at h
  · obtain ⟨-, -, -, -, i, hi, rfl⟩ := State.writeTable_ok h
    obtain ⟨g, -, hg⟩ := Option.bind_eq_some_iff.mp hi
    unfold Image.putProfile at hg
    split at hg
    · cases hg; exact State.write_effects _ hl rfl (.inl rfl) fun _ => .inl rfl
    · cases hg
  · obtain ⟨-, -, -, -, i, hi, -⟩ := State.writeTable_ok h
    cases hi

theorem writeCoolingBody_effects {index : Word} {fields : List Word} (hl : s.loading = false)
    (h : writeCoolingBody index fields s = .ok (t, d)) : State.Effects runs s t := by
  unfold writeCoolingBody at h
  split at h
  · next n z _ =>
    obtain ⟨-, hu, -, -, i, hi, rfl⟩ := State.writeTable_ok h
    obtain ⟨g, -, hg⟩ := Option.bind_eq_some_iff.mp hi
    unfold State.putCooling at hg
    dsimp only at hg
    split at hg
    · cases hg
    · cases hg
      refine State.write_effects _ hl rfl (.inl rfl) fun m => ?_
      by_cases hm : m = n
      · exact .inr (hm ▸ hu)
      · have : (n : Nat) ≠ m := fun e => hm (Fin.ext e.symm)
        exact .inl (by simp [this])
  · obtain ⟨-, -, -, -, i, hi, -⟩ := State.writeTable_ok h
    cases hi

theorem writePlantBody_effects {index : Word} {fields : List Word} (hl : s.loading = false)
    (h : writePlantBody index fields s = .ok (t, d)) : State.Effects runs s t := by
  obtain ⟨-, -, -, -, i, hi, rfl⟩ := State.writeTable_ok h
  unfold Image.putPlant at hi
  split at hi
  · obtain ⟨pl, -, rfl⟩ := Option.map_eq_some_iff.mp hi
    exact State.write_effects _ hl rfl (.inl rfl) fun _ => .inl rfl
  · split at hi
    · obtain ⟨pl, -, rfl⟩ := Option.map_eq_some_iff.mp hi
      exact State.write_effects _ hl rfl (.inl rfl) fun _ => .inl rfl
    · cases hi

theorem writeLimitsBody_effects {index : Word} {fields : List Word} (hl : s.loading = false)
    (h : writeLimitsBody index fields s = .ok (t, d)) : State.Effects runs s t := by
  obtain ⟨-, hu, -, -, i, hi, rfl⟩ := State.writeTable_ok h
  unfold Image.putLimits at hi
  split at hi
  · next h0 =>
    obtain ⟨l, -, rfl⟩ := Option.map_eq_some_iff.mp hi
    exact State.write_effects _ hl rfl (.inr (by simpa [h0] using hu)) fun _ => .inl rfl
  · split at hi
    · next h1 =>
      obtain ⟨l, -, rfl⟩ := Option.map_eq_some_iff.mp hi
      exact State.write_effects _ hl rfl (.inr (by simpa [h1] using hu)) fun _ => .inl rfl
    · cases hi

theorem writeNoKindBody_refuses (h : writeNoKindBody s = .ok (t, d)) : False := by
  obtain ⟨-, -, -, -, i, hi, -⟩ := State.writeTable_ok h
  cases hi

theorem protectSetBody_effects {r c l : Word} {key : KeyPos} (hl : s.loading = false)
    (h : protectSetBody r c l key s = .ok (t, d)) : State.Effects runs s t := by
  unfold protectSetBody at h
  split at h
  · cases h
  · split at h
    · cases h
    · split at h
      · cases h
      · split at h
        · cases h; exact State.setConfig_effects _ hl ⟨rfl, rfl⟩
        · cases h

theorem commitBody_effects (hl : s.loading = false) (h : commitBody s = .ok (t, d)) : State.Effects runs s t := by
  unfold commitBody at h
  split at h
  · cases h
  · split at h
    · cases h
    · cases h
      exact .single (.store rfl rfl (.inl hl) ⟨rfl, rfl⟩ (.inl rfl) (fun _ => .inl rfl) (.inr fun _ _ => rfl))

theorem limitsLockBody_effects (hl : s.loading = false) (h : limitsLockBody s = .ok (t, d)) : State.Effects runs s t := by
  unfold limitsLockBody at h
  split at h
  · cases h
  · split at h
    · cases h
    · split at h
      · cases h
      · split at h
        · cases h
        · cases h
          exact .single (.store rfl rfl (.inl hl) ⟨rfl, rfl⟩ (.inl rfl) (fun _ => .inl rfl) (.inr nofun))

/-! ### Requests to the line and to the alarm queue -/

theorem setNodeBody_effects {n : Word} (hl : s.loading = false) (h : setNodeBody n s = .ok (t, d)) : State.Effects runs s t := by
  unfold setNodeBody at h
  split at h
  · cases h
  · split at h
    · cases h
    · next v _ =>
      dsimp only at h
      split at h
      · cases h; exact .refl
      · cases h
        exact (State.setConfig_effects (fun c => { c with node := BitVec.ofNat 8 v }) hl ⟨rfl, rfl⟩).tail
          (.moves (State.moves_of_strands rfl rfl))

/-- The records of a PASSIVE strand whose slot changes (R90, R151). -/
theorem Strand.unmap_moves (i : Image) {x : Strand} (h : x.ctx.state = .passive) : Strand.Moves i x x.unmap :=
  .tail (.single (.answered x (by simp [Context.driving, Context.realRun, Context.running, h]))) (.input _ {})

theorem State.unmap_moves (l : List StrandId) (hn : l.Nodup) (h : ∀ k ∈ l, (s.ctx k).state = .passive) :
    s.moves (forStrands l (fun k s => s.upd k Strand.unmap) s) :=
  forStrands_moves_own l hn _ s fun k hk u _ e =>
    ⟨State.moves_upd u k _ (Strand.unmap_moves _ (by rw [e]; exact h k hk)), fun j hj => by simp [hj]⟩

/-- The plant input record and the dip state go back to their reset values (R90, R151). -/
theorem State.resetDip_effect (s : State) : State.Effect runs s { s with plantIn := {}, dip := .normal, dipCount := 0 } :=
  .dip .normal false .nodata (fun _ => .refl) rfl (.inr (by simp)) fun _ => rfl

theorem setSlotBaseBody_effects {b : Word} (hl : s.loading = false) (h : setSlotBaseBody b s = .ok (t, d)) :
    State.Effects runs s t := by
  unfold setSlotBaseBody at h
  split at h
  · cases h
  · split at h
    · cases h
    · next hp =>
      have passive : ∀ k, (s.ctx k).state = .passive := fun k => by
        have := List.any_eq_false.mp (Bool.eq_false_iff.mpr hp) k (mem_strandIds k)
        simpa using this
      split at h
      · cases h
      · next base _ =>
        dsimp only at h
        cases h
        have map : State.Effects runs s (s.setConfig fun c => { c with slotBase := some base }) :=
          .single (.map (some base) s.working.config.mask hl fun k hk => absurd (passive k) hk)
        exact (map.tail (.moves (State.unmap_moves strandIds strandIds_nodup fun k _ => passive k))).tail
          (State.resetDip_effect _)

theorem setStrandMaskBody_effects {m : Word} (hl : s.loading = false) (h : setStrandMaskBody m s = .ok (t, d)) :
    State.Effects runs s t := by
  unfold setStrandMaskBody at h
  split at h
  · cases h
  · split at h
    · cases h
    · next n _ =>
      dsimp only at h
      split at h
      · cases h
      · next hp =>
        have kept : ∀ k, s.working.config.inMask k = true → (BitVec.ofNat 8 n).getLsbD k = true ∨ (s.ctx k).state = .passive :=
          fun k hk => by
            have := List.any_eq_false.mp (Bool.eq_false_iff.mpr hp) k (mem_strandIds k)
            simp [hk] at this
            by_cases hb : (BitVec.ofNat 8 n).getLsbD k = true
            · exact .inl hb
            · exact .inr (this (by simpa using hb))
        cases h
        refine .tail (.tail (.single (.map s.working.config.slotBase (some (BitVec.ofNat 8 n)) hl fun k hk ha hin => ?_))
          (.moves (State.unmap_moves _ (strandIds_nodup.filter _) fun k hk => ?_)))
          (.moves (forStrands_moves _ _ _ fun k _ u _ => State.moves_upd u k _ (Strand.Move.input _ {}).moves))
        · refine ⟨?_, (kept k hin).resolve_right hk⟩
          simp only [StoredConfig.mapActive, decide_eq_true_eq] at ha ⊢
          exact ⟨ha.1, rfl⟩
        · have hk' := (List.mem_filter.mp hk).2
          simp only [Bool.and_eq_true, Bool.not_eq_true'] at hk'
          exact (kept k hk'.1).resolve_left (by rw [hk'.2]; simp)

theorem alarmPopBody_effects {n : Word} (h : alarmPopBody n s = .ok (t, d)) : State.Effects runs s t := by
  unfold alarmPopBody at h
  split at h
  · cases h
  · cases h; exact State.moves.effects (State.moves_of_strands rfl rfl)

theorem countersReadBody_effects {n : Word} (h : countersReadBody n s = .ok (t, d)) : State.Effects runs s t := by
  unfold countersReadBody at h
  split at h
  · cases h
  · dsimp only at h
    split at h <;> cases h <;> split
    · exact (State.count_moves _ s).effects
    · exact .refl
    · exact (State.count_moves _ s).effects
    · exact .refl

theorem watchBody_effects {n : Word} (h : watchBody n s = .ok (t, d)) : State.Effects runs s t := by
  unfold watchBody at h
  split at h
  · cases h; exact State.moves.effects (State.moves_of_strands rfl rfl)
  · split at h
    · cases h; exact State.moves.effects (State.moves_of_strands rfl rfl)
    · cases h

end

end Sys2Proof.Machine

namespace Sys2Proof.Machine

/-! ## Beats of the sources -/

section
variable {runs : Prop}

theorem State.setMonitor_moves (src : Source) (m : Monitor) (s : State) : s.moves (s.setMonitor src m) := by
  cases src
  · exact State.moves_of_strands rfl rfl
  · exact State.moves_of_strands rfl rfl
  · exact .refl s

theorem State.atTime_moves (t : Nat) (s : State) : s.moves (s.atTime t) := State.moves_of_strands rfl rfl

/-- A completed switch: the new source, no target pending, and no fail flag but on LOCAL (R125). -/
theorem State.completeSwitch_effect (src : Source) (s : State) (hs : s.loading = false ∨ s.localNext.isSome = true) :
    State.Effect runs s (s.completeSwitch src) := by
  have h1 := State.deliverBeat_moves { s with current := src }
  unfold State.completeSwitch
  dsimp only
  generalize State.deliverBeat { s with current := src } = u at h1 ⊢
  have h2 : State.moves { u with switchTo := none, fail := false } (State.clearFail { u with switchTo := none }) :=
    State.clearFail_moves { u with switchTo := none }
  have hf : u.frame = { s.frame with current := src } := h1.frame
  have hw : u.working = s.working := h1.working
  split
  · refine .beatUnit src none false s.localNext (fun k => ?_) ?_ hs nofun nofun
    · rw [State.strand_raise]
      exact (h1.strands k).trans (hw ▸ h2.strands k)
    · rw [State.frame_raise, h2.frame]
      exact congrArg (fun f : State => { f with switchTo := none, fail := false }) hf
  · next hc =>
    refine .beatUnit src none s.fail s.localNext (fun k => ?_) ?_ hs (fun hfail => .inl ?_) nofun
    · rw [State.strand_raise]
      exact h1.strands k
    · rw [State.frame_raise]
      exact congrArg (fun f : State => { f with switchTo := none }) hf
    · by_contra hne
      exact hc ⟨hne, (State.fail_of_frame h1.frame).trans hfail⟩

theorem State.sourceBeat_effects (src : Source) (n : Nat) (s : State) : State.Effects runs s (s.sourceBeat src n) := by
  unfold State.sourceBeat
  split
  · exact .refl
  · next hl =>
    have hm := (State.setMonitor_moves src ((s.monitor src).beat s.period n) s).trans (State.atTime_moves n _)
    dsimp only
    split
    · refine (hm.trans (State.moves.trans ?_ (State.deliverBeat_moves _))).effects
      split
      · exact State.count_moves _ _
      · exact .refl _
    · split
      · refine hm.effects.tail (State.completeSwitch_effect src _ (.inl ?_))
        rw [State.loading_of_frame hm.frame]
        simpa using hl
      · exact hm.effects

theorem State.localBeat_effects (s : State) : State.Effects runs s s.localBeat := by
  unfold State.localBeat
  split
  · exact .refl
  · next n hn =>
    have h1 : State.Effect runs s (State.atTime { s with localNext := some (n + 1000 * s.period) } n) :=
      .beatUnit s.current s.switchTo s.fail (some (n + 1000 * s.period)) (fun _ => .refl) rfl (.inr (by simp [hn]))
        (fun h => .inr ⟨h, rfl⟩) fun src h => .inr ⟨h, rfl⟩
    dsimp only
    split
    · exact .tail (.single h1) (.moves (State.deliverBeat_moves _))
    · split
      · exact .tail (.single h1) (State.completeSwitch_effect .localGen _ (.inr rfl))
      · exact .single h1

/-- The loss of the current source: LOCAL with the fail flag, no target pending, BEAT added (R121). -/
theorem State.failover_effect (src : Source) (s : State) (hs : s.loading = false) :
    State.Effect runs s (s.failover src) := by
  have h := (State.addEverywhere_moves .beat { s with current := .localGen, fail := true, switchTo := none }).raise
    .beatFail none src.code
  exact .beatUnit .localGen none true s.localNext h.strands h.frame (.inl hs) (fun _ => .inl rfl) nofun

theorem State.sourceSilence_effects (src : Source) (s : State) : State.Effects runs s (s.sourceSilence src) := by
  unfold State.sourceSilence
  dsimp only
  split
  · exact .refl
  · next hl =>
    have hm := (State.setMonitor_moves src (s.monitor src).silence s).trans
      (State.atTime_moves ((s.monitor src).ref + 3000 * s.period) _)
    split
    · refine hm.effects.tail (State.failover_effect src _ ?_)
      rw [State.loading_of_frame hm.frame]
      rw [not_or] at hl
      simpa using hl.1
    · exact hm.effects

/-! ## Plant samples -/

theorem Input.sample_loss (n : Nat) (varied : Bool) (i : Input) :
    (i.sample n varied).loss = .valid ∨ (i.sample n varied).loss = i.loss := by
  unfold Input.sample
  split
  · exact .inr rfl
  · split
    · exact .inl rfl
    · exact .inr rfl

theorem State.frame_setPlantInput (s : State) (after : PlantInput) :
    (s.setPlantInput after).frame = { s with plantIn := after }.frame := by
  have h : { s with plantIn := after }.moves (s.setPlantInput after) :=
    (State.moves.refl _).raiseLoss _ _ _ _
  exact h.frame

theorem State.setPlantInput_strands (s : State) (after : PlantInput) (k : StrandId) :
    (s.setPlantInput after).strand k = s.strand k := by
  unfold State.setPlantInput
  rcases State.raiseLoss_cases { s with plantIn := after } none 2 s.plantIn.inp.loss after.inp.loss with e | ⟨kind, d, e⟩ <;>
    rw [e]
  · rfl
  · exact State.strand_raise _ _ _ _ _

/-- The plant input becomes VALID, or is so again, with the dip flag as it was (R79). -/
theorem State.plantValid_effect (s : State) (after : PlantInput) (hv : after.inp.loss = .valid)
    (hd : after.dip = s.plantIn.dip) : State.Effect runs s (s.setPlantInput after) :=
  .dip s.dip after.dip .valid (fun k => by rw [State.setPlantInput_strands])
    (by rw [State.frame_setPlantInput]; simp [State.frame, hv]) (.inl ⟨rfl, hd⟩) nofun

theorem State.plantFrame_frame {s u : State} {after : PlantInput} {d : DipState}
    (h : { (s.setPlantInput after) with dip := d }.moves u) (hv : after.inp.loss = .valid) :
    u.frame = { s.frame with dip := d, plantIn := { dip := after.dip, inp := { loss := .valid } } } := by
  have e : { (s.setPlantInput after) with dip := d }.frame = { (s.setPlantInput after).frame with dip := d } := rfl
  rw [h.frame, e, State.frame_setPlantInput]
  simp [State.frame, hv]

theorem State.takePlant_effects (x : PlantReading) (s : State) : State.Effects runs s (s.takePlant x) := by
  unfold State.takePlant
  split
  · exact .refl
  · dsimp only
    have hstr := State.setPlantInput_strands s (s.plantIn.take s.plant x)
    have hdip : (s.setPlantInput (s.plantIn.take s.plant x)).dip = s.dip := by
      have := congrArg State.dip (State.frame_setPlantInput s (s.plantIn.take s.plant x)); exact this
    have hwork : (s.setPlantInput (s.plantIn.take s.plant x)).working = s.working := by
      have := congrArg State.working (State.frame_setPlantInput s (s.plantIn.take s.plant x)); exact this
    split
    · next hv =>
      have hflag : (s.plantIn.take s.plant x).dip = x.dip := if_pos hv
      -- the dip state that follows the flag, and the moves from there
      have step : ∀ (d : DipState) (u : State),
          { (s.setPlantInput (s.plantIn.take s.plant x)) with dip := d }.moves u →
          d = s.dip ∧ (s.plantIn.take s.plant x).dip = s.plantIn.dip
            ∨ (d = .dipped ↔ (s.plantIn.take s.plant x).dip = true) →
          State.Effects runs s (u.takeWeight x.weight) := fun d u hu hd =>
        .tail (.single (.dip d _ .valid
          (fun k => by have := hu.strands k; rw [hwork] at this; exact hstr k ▸ this)
          (State.plantFrame_frame hu hv) hd nofun)) (.moves (State.takeWeight_moves _ _))
      unfold State.takeDipFlag
      split
      · next _ _ _ hn => exact step .dipped _ (State.dipBegin_moves _) (.inr (by simp [hflag, hn]))
      · next _ _ _ hn => exact step .normal _ (State.dipEnd_moves _) (.inr (by simp [hflag, hn]))
      · next h1 h2 =>
        refine step s.dip _ ?_ (.inl ⟨rfl, ?_⟩)
        · rw [← hdip]; exact .refl _
        · rw [hflag]
          cases hb : s.plantIn.dip <;> cases hn : x.dip <;> simp_all
    · next hv =>
      refine State.moves.effects ⟨?_, fun k => by rw [hstr]⟩
      have hl : (s.plantIn.take s.plant x).inp.loss = s.plantIn.inp.loss :=
        (Input.sample_loss _ _ _).resolve_left hv
      have hd : (s.plantIn.take s.plant x).dip = s.plantIn.dip := if_neg hv
      rw [State.frame_setPlantInput]
      simp [State.frame, hl, hd]

end
end Sys2Proof.Machine

/-! Every command, as a chain of effects. -/

namespace Sys2Proof

/-- A command that may begin a run or release a COMMAND hold: START, RELEASE, and the rows that may carry their REQ frame. -/
def Instr.mayRun : Instr → Prop
  | .start _ _ _ _ | .release _ _ | .unknownRequest _ | .ownFrameReturn _ | .passThroughFrame _ => True
  | .badCheckFrame words => Frame.ofWire words ≠ none
  | .malformedFrame f | .beatFrame f _ | .sensorSample f | .plantSample f | .masterActuatorFrame f | .statusSlotFrame f =>
    f.kind = 3
  | _ => False

end Sys2Proof

namespace Sys2Proof.Machine

/-! ## Requests -/

theorem State.warmReset_effects {runs : Prop} (s : State) : State.Effects runs s s.warmReset := .single .warmReset

theorem State.partReset_effects {runs : Prop} (q : ReqHead) (s : State) :
    State.Effects runs s
      (if s.isOwn q.origin then s
      else if s.loading then s.reply 22 q .busy []
      else (s.reply 22 q .ok []).warmReset) := by
  split
  · exact .refl
  · split
    · exact (State.reply_moves _ _ _ _ s).effects
    · exact (State.reply_moves _ _ _ _ s).effects.trans (State.warmReset_effects _)

/-- A request is a chain of effects of its owning rule, and its reply. -/
theorem State.runRequest_effects (i : Instr) (s : State) : State.Effects i.mayRun s (s.runRequest i) := by
  cases i with
  | partReset q => exact State.partReset_effects q s
  | track q w => exact State.strandRequest_effects _ _ w fun hl _ hn _ _ h => trackBody_effects hl hn h
  | untrack q w => exact State.strandRequest_effects _ _ w fun _ _ _ _ _ h => untrackBody_effects h
  | start q w p sh => exact State.strandRequest_effects _ _ w fun hl _ hn _ _ h => startBody_effects trivial hl hn h
  | hold q w => exact State.strandRequest_effects _ _ w fun _ _ _ _ _ h => holdBody_effects h
  | release q w => exact State.strandRequest_effects _ _ w fun _ _ _ _ _ h => releaseBody_effects trivial h
  | clearTrip q w => exact State.strandRequest_effects _ _ w fun _ _ _ _ _ h => clearTripBody_effects h
  | readContext q w => exact State.strandRequest_effects _ _ w fun _ _ _ _ _ h => by cases h; exact .refl
  | setArbiter q m pr => exact State.answer_effects _ _ fun hl _ _ h => setArbiterBody_effects hl h
  | coolPin q w t => exact State.strandRequest_effects _ _ w fun hl _ _ _ _ h => coolPinBody_effects hl h
  | changeBegin q => exact State.answer_effects _ _ fun _ _ _ h => changeBeginBody_effects h
  | changeCancel q => exact State.answer_effects _ _ fun _ _ _ h => changeCancelBody_effects h
  | swapConfirm q => exact State.answer_effects _ _ fun _ _ _ h => swapConfirmBody_effects h
  | sourceSelect q n keep => exact State.answer_effects _ _ fun hl _ _ h => sourceSelectBody_effects hl h
  | sourceCancel q => exact State.answer_effects _ _ fun hl _ _ h => sourceCancelBody_effects hl h
  | sourceFreeze q => exact State.answer_effects _ _ fun _ _ _ h => sourceFreezeBody_effects h
  | setBeatPeriod q p t => exact State.answer_effects _ _ fun hl _ _ h => setBeatPeriodBody_effects hl h
  | failClear q => exact State.answer_effects _ _ fun hl _ _ h => failClearBody_effects hl h
  | handback q w => exact State.strandRequest_effects _ _ w fun _ _ _ _ _ h => handbackBody_effects h
  | setNode q n => exact State.answer_effects _ _ fun hl _ _ h => setNodeBody_effects hl h
  | setSlotBase q b => exact State.answer_effects _ _ fun hl _ _ h => setSlotBaseBody_effects hl h
  | setStrandMask q m => exact State.answer_effects _ _ fun hl _ _ h => setStrandMaskBody_effects hl h
  | tableOpen q => exact State.answer_effects _ _ fun hl _ _ h => tableOpenBody_effects hl h
  | tableClose q => exact State.answer_effects _ _ fun hl _ _ h => tableCloseBody_effects hl h
  | tableWriteSegment q n fs => exact State.answerSized_effects _ _ _ fun hl _ _ h => writeSegmentBody_effects hl h
  | tableWriteProfile q n fs => exact State.answerSized_effects _ _ _ fun hl _ _ h => writeProfileBody_effects hl h
  | tableWriteCooling q n fs => exact State.answerSized_effects _ _ _ fun hl _ _ h => writeCoolingBody_effects hl h
  | tableWritePlant q n fs => exact State.answerSized_effects _ _ _ fun hl _ _ h => writePlantBody_effects hl h
  | tableWriteLimits q n fs => exact State.answerSized_effects _ _ _ fun hl _ _ h => writeLimitsBody_effects hl h
  | tableRead q kind n =>
    exact State.answer_effects _ _ fun _ _ _ h => by
      unfold tableReadBody at h
      split at h <;> cases h
      exact .refl
  | commit q => exact State.answer_effects _ _ fun hl _ _ h => commitBody_effects hl h
  | protectSet q r c l key =>
    have hk : s.moves { s with key } := State.moves_of_strands rfl rfl
    exact hk.effects.trans (State.answer_effects _ _ fun hl _ _ h => protectSetBody_effects hl h)
  | limitsLock q => exact State.answer_effects _ _ fun hl _ _ h => limitsLockBody_effects hl h
  | alarmPop q n => exact State.answer_effects _ _ fun _ _ _ h => alarmPopBody_effects h
  | countersRead q fl => exact State.answer_effects _ _ fun _ _ _ h => countersReadBody_effects h
  | watch q w => exact State.answer_effects _ _ fun _ _ _ h => watchBody_effects h
  | _ => exact .refl

/-- A request row is answered as a request. -/
theorem exec_request {i : Instr} {q : ReqHead} (h : i.head = some q) (s : State) : exec i s = .next (s.runRequest i) := by
  cases i <;> cases h <;> rfl

/-! ## Frames on UP -/

theorem State.requestFrame_effects (f : Frame) (s : State) : State.Effects True s (s.requestFrame f) := by
  unfold State.requestFrame
  split
  · exact State.refuse_effects _ _ _ _
  · exact State.refuse_effects _ _ _ _
  · next i _ => exact (State.runRequest_effects i s).mono fun _ => trivial
  · exact State.answer_effects _ _ fun _ _ _ h => (writeNoKindBody_refuses h).elim

theorem State.plantFrame_effects {runs : Prop} (f : Frame) (s : State) : State.Effects runs s (s.plantFrame f) := by
  unfold State.plantFrame
  split
  · split
    · exact (State.send_moves f s).effects
    · exact (State.send_moves f s).effects.trans (State.takePlant_effects _ _)
  · exact (State.send_moves f s).effects

/-- A frame is taken for a request only where it is a REQ frame (R157). -/
theorem State.frameUse_request {s : State} {f : Frame} (h : s.frameUse f = .request) : f.kind = 3 := by
  unfold State.frameUse at h
  split at h
  · cases h
  · split at h
    · cases h
    · split at h
      · cases h
      · split at h
        · split at h
          · split at h <;> cases h
          · cases h
        · split at h
          · next hk => exact hk.1
          · cases h

theorem State.countSend_moves (c : Counters → Counters) (f : Frame) (s : State) : s.moves ((s.count c).send f) :=
  State.moves_of_strands rfl rfl

theorem State.receive_effects (f : Frame) (s : State) : State.Effects (f.kind = 3) s (s.receive f) := by
  unfold State.receive
  split
  · exact (State.countSend_moves _ f s).effects
  · exact .refl
  · exact (State.send_moves f s).effects.trans (State.sourceBeat_effects _ _ _)
  · exact State.plantFrame_effects f s
  · exact (State.statusFrame_moves f s).effects
  · exact (State.sensorFrame_moves _ f s).effects
  · exact (State.actuatorFrame_moves _ f s).effects
  · exact (State.countSend_moves _ f s).effects
  · next h => exact (State.requestFrame_effects f s).mono fun _ => State.frameUse_request h
  · exact (State.send_moves f s).effects

/-! ## The rows of the Input Monitor, the pass, and the Line Interface -/

section
variable {runs : Prop} {s t : State}

theorem execInputSilence_effects (i : InputId) (h : execInputSilence i s = .next t) : State.Effects runs s t := by
  cases h
  cases i with
  | level k => dsimp only; split; exacts [(State.sense_moves k _ _ s).effects, .refl]
  | feedback k => dsimp only; split; exacts [(State.sense_moves k _ _ s).effects, .refl]
  | plant => dsimp only; split; exacts [(State.agePlant_moves _ s).effects, .refl]

theorem execLevelFrozen_effects (k : StrandId) (h : execLevelFrozen k s = .next t) : State.Effects runs s t := by
  cases h
  dsimp only
  split
  exacts [(State.sense_moves k _ _ s).effects, .refl]

/-- A clear run that completes leaves its input VALID (R79). -/
theorem Input.sample_clears {n : Nat} {i : Input} (h : i.clearDue n = true) : (i.sample n true).loss = .valid := by
  simp only [Input.clearDue, decide_eq_true_eq, ne_eq] at h
  simp [Input.sample, h]

theorem execInputClear_effects (i : InputId) (h : execInputClear i s = .next t) : State.Effects runs s t := by
  cases h
  cases i with
  | level k => dsimp only; split; exacts [(State.sense_moves k _ _ s).effects, .refl]
  | feedback k => dsimp only; split; exacts [(State.sense_moves k _ _ s).effects, .refl]
  | plant =>
    dsimp only
    split
    · next h => exact .single (State.plantValid_effect s _ (Input.sample_clears h) rfl)
    · exact .refl

theorem execLevelTrip_effects (k : StrandId) (h : execLevelTrip k s = .next t) : State.Effects runs s t := by
  cases h
  split
  exacts [(State.tripAll_moves _ _ s).effects, .refl]

theorem execFollowTrip_effects (k : StrandId) (h : execFollowTrip k s = .next t) : State.Effects runs s t := by
  cases h
  split
  exacts [((State.countFollow_moves _ k s).trans (State.tripAll_moves _ _ _)).effects, .refl]

theorem execLoweringWindowExpiry_effects (h : execLoweringWindowExpiry s = .next t) : State.Effects runs s t := by
  cases h
  split
  exacts [(State.changeBeat_moves s).effects, .refl]

theorem execSwapWindowExpiry_effects (h : execSwapWindowExpiry s = .next t) : State.Effects runs s t := by
  cases h
  split
  exacts [(State.changeBeat_moves s).effects, .refl]

theorem execDipWindowExpiry_effects (h : execDipWindowExpiry s = .next t) : State.Effects runs s t := by
  cases h
  split
  exacts [(State.dipBeat_moves s).effects, .refl]

theorem execBlendComplete_effects (k : StrandId) (h : execBlendComplete k s = .next t) : State.Effects runs s t := by
  cases h
  split
  · split
    exacts [(State.blendStep_moves k s).effects, .refl]
  · exact .refl

theorem execStarved_effects (k : StrandId) (h : execStarved k s = .next t) : State.Effects runs s t := by
  cases h
  split
  · next hr =>
    have hm : s.moves (s.updCtx k fun c => { c with starved := true, starvedCount := satInc c.starvedCount }) :=
      State.note_moves k _ s hr.1 rfl
    exact (hm.raise _ _ _).effects
  · exact .refl

theorem execDeficit_effects (h : execDeficit s = .next t) : State.Effects runs s t := by
  cases h
  split
  exacts [(State.countDeficit_moves s).effects, .refl]

theorem execOriginate_effects (k : StrandId) (h : execOriginate k s = .next t) : State.Effects runs s t := by
  cases h
  split
  exacts [(State.originStep_moves k s).effects, .refl]

theorem execRetiredNodeClear_effects (h : execRetiredNodeClear s = .next t) : State.Effects runs s t := by
  cases h
  split
  exacts [(State.countRetired_moves s).effects, .refl]

theorem execSwitchComplete_effects (n : Nat) (h : execSwitchComplete n s = .next t) : State.Effects runs s t := by
  cases h
  split
  · exact .refl
  · exact State.localBeat_effects s
  · split
    exacts [State.sourceBeat_effects _ n s, .refl]

theorem execCommitDone_effects (h : execCommitDone s = .next t) : State.Effects runs s t := by
  cases h
  split
  · next i hi =>
    exact .tail (.single (.store (t := { s with stored := some i, incomplete := false, op := .idle, latchOpen := false })
      rfl rfl (.inr (by simp [hi])) ⟨rfl, rfl⟩ (.inl rfl) (fun _ => .inl rfl) (.inr nofun)))
      (.moves ((State.moves.refl _).raise _ _ _))
  · exact .refl

theorem execLockDone_effects (h : execLockDone s = .next t) : State.Effects runs s t := by
  cases h
  split
  · next l hl =>
    exact .tail (.single (.store (t := { s with oneTime := some l, op := .idle, latchOpen := false })
      rfl rfl (.inr (by simp [hl])) ⟨rfl, rfl⟩ (.inl rfl) (fun _ => .inl rfl) (.inr nofun)))
      (.moves ((State.moves.refl _).raise _ _ _))
  · exact .refl

theorem execStartUpLoadDone_effects (n : Nat) (h : execStartUpLoadDone n s = .next t) : State.Effects runs s t := by
  cases h
  split
  · next hl => exact .single (.endLoad n hl)
  · exact .refl

end

/-! ## All commands -/

/-- What a command can do: each is a chain of effects, and only the commands named begin a run or release a COMMAND hold. -/
theorem exec_effects {c : Instr} {s t : State} (h : exec c s = .next t) : State.Effects c.mayRun s t := by
  cases hq : c.head with
  | some q =>
    rw [exec_request hq] at h
    cases h
    exact State.runRequest_effects c s
  | none =>
    cases c with
    | powerOnReset => cases h; exact .single .powerOn
    | startUpLoadDone n => exact execStartUpLoadDone_effects n h
    | warmReset => cases h; exact State.warmReset_effects s
    | commitDone => exact execCommitDone_effects h
    | lockDone => exact execLockDone_effects h
    | unknownRequest f =>
      cases h
      split
      exacts [State.requestFrame_effects f s, (State.receive_effects f s).mono fun _ => trivial]
    | badCheckFrame words =>
      cases h
      split
      · exact State.moves.effects (State.moves_of_strands rfl rfl)
      · next f hf => exact (State.receive_effects f s).mono fun _ => by simp [Instr.mayRun, hf]
    | ownFrameReturn f =>
      cases h
      split
      exacts [.refl, (State.receive_effects f s).mono fun _ => trivial]
    | passThroughFrame f =>
      cases h
      split
      exacts [(State.send_moves f s).effects, (State.receive_effects f s).mono fun _ => trivial]
    | malformedFrame f =>
      cases h
      split
      exacts [(State.countSend_moves _ f s).effects, State.receive_effects f s]
    | beatFrame f n =>
      cases h
      split
      exacts [(State.send_moves f s).effects.trans (State.sourceBeat_effects _ _ _), State.receive_effects f s]
    | pulseEdge n => cases h; exact State.sourceBeat_effects .pulse n s
    | localExpiry => cases h; exact State.localBeat_effects s
    | sourceSilent src => cases h; exact State.sourceSilence_effects src s
    | switchComplete n => exact execSwitchComplete_effects n h
    | blendComplete k => exact execBlendComplete_effects k h
    | starved k => exact execStarved_effects k h
    | deficit => exact execDeficit_effects h
    | inputSilence i => exact execInputSilence_effects i h
    | sensorSample f =>
      cases h
      split
      exacts [(State.sensorFrame_moves _ f s).effects, State.receive_effects f s]
    | levelFrozen k => exact execLevelFrozen_effects k h
    | inputClear i => exact execInputClear_effects i h
    | levelTrip k => exact execLevelTrip_effects k h
    | plantSample f =>
      cases h
      split
      exacts [State.plantFrame_effects f s, State.receive_effects f s]
    | dipWindowExpiry => exact execDipWindowExpiry_effects h
    | loweringWindowExpiry => exact execLoweringWindowExpiry_effects h
    | swapWindowExpiry => exact execSwapWindowExpiry_effects h
    | followTrip k => exact execFollowTrip_effects k h
    | masterActuatorFrame f =>
      cases h
      split
      exacts [(State.actuatorFrame_moves _ f s).effects, State.receive_effects f s]
    | statusSlotFrame f =>
      cases h
      split
      exacts [(State.statusFrame_moves f s).effects, State.receive_effects f s]
    | originate k => exact execOriginate_effects k h
    | retiredNodeClear => exact execRetiredNodeClear_effects h
    | _ => cases hq

/-- A step is a chain of effects on the state without its front command. -/
theorem step_effects {s t : State} (h : step s = .next t) : ∃ rest, State.Effects True { s with pending := rest } t := by
  unfold step at h
  split at h
  · cases h; exact ⟨s.pending, .refl⟩
  · next rest _ => exact ⟨rest, (exec_effects h).mono fun _ => trivial⟩

end Sys2Proof.Machine

/-! START at a strand's records, and the invariant of every strand's records. -/

namespace Sys2Proof.Machine

/-! ## START -/

/-- The effective table of a strand that has just entered segment n of profile p (R50). -/
def State.firstTable (s : State) (x : Strand) (p : ProfileId) : TableId :=
  (x.pin.or (s.plant.globalTable.or (s.working.segment p (s.working.profile p).first).cooling)).getD (s.working.profile p).cooling

/-- The context of a strand that an accepted START sets to run (R11, R12, R36). -/
def State.begunCtx (s : State) (x : Strand) (p : ProfileId) (shadow : Bool) (v : Nat) (lim : Limits) : Context :=
  let g := s.working.segment p (s.working.profile p).first
  let hold : HoldSet := { sensor := !x.input.bothValid, beat := s.fail }
  { state := if hold = {} then .ramping else .holding, shadow, profile := some p
    segment := some (.seg (s.working.profile p).first), acc := min v lim.speed.maxSpeed * 64
    target := some (min g.target lim.speed.maxSpeed), rate := some (min g.rate lim.speed.maxRate), hold }

/-- The records of a strand that an accepted START sets to run (R11 to R13, R57, R141, R153, R155). -/
def State.begun (s : State) (x : Strand) (p : ProfileId) (shadow : Bool) (v : Nat) (lim : Limits) : Strand :=
  let grant := s.grantFor (min v lim.speed.maxSpeed) (s.firstTable x p)
  { x with
    ctx := s.begunCtx x p shadow v lim, observed := if x.ctx.state = .passive then none else x.observed, claimDue := false
    silence := 0, originating := false
    grant := if shadow then x.grant else grant, shadowGrant := if shadow then grant else x.shadowGrant }

theorem State.lim_of_limits {s : State} {lim : Limits} (h : s.limits = some lim) : s.lim = lim := by
  unfold State.lim; rw [h]; rfl

/-- The effective table, from the records of a strand that runs segment n of profile p (R50). -/
theorem State.effectiveTable_of_run {s : State} {k : StrandId} {p : ProfileId} {n : Fin 8}
    (hp : (s.ctx k).profile = some p) (hn : (s.ctx k).segment = some (.seg n)) :
    s.effectiveTable k
      = ((s.strand k).pin.or (s.plant.globalTable.or (s.working.segment p n).cooling)).getD (s.working.profile p).cooling := by
  have hp' : (s.strand k).ctx.profile = some p := hp
  have hn' : (s.strand k).ctx.segment = some (.seg n) := hn
  unfold State.effectiveTable
  simp only [State.segmentOf, State.profileOf, hp', hn', Option.bind_some]
  cases (s.strand k).pin <;> cases s.plant.globalTable <;> cases (s.working.segment p n).cooling <;> rfl

/-- Entry into a segment of a strand that is not enrolled (R36). -/
theorem State.enterSegment_eq {s : State} {k : StrandId} {p : ProfileId} (n : Fin 8) (hp : (s.ctx k).profile = some p)
    (he : (s.ctx k).enrolled = false) :
    s.enterSegment k n = s.updCtx k fun c =>
      s.loadSegment (s.working.segment p n) { c with segment := some (.seg n), dwell := 0, confirmSeen := false } := by
  unfold State.enterSegment
  rw [hp]
  dsimp only
  rw [if_neg]
  rw [State.overridden_iff, State.ctx_updCtx, if_pos rfl]
  simp [State.loadSegment, he]

theorem State.upd_congr {s : State} {k : StrandId} {f g : Strand → Strand} (h : f (s.strand k) = g (s.strand k)) :
    s.upd k f = s.upd k g := by unfold State.upd; rw [h]

theorem State.grantFor_upd (s : State) (k : StrandId) (f : Strand → Strand) : (s.upd k f).grantFor = s.grantFor := rfl

/-- The hold set after START decides the state (R12). -/
theorem Context.firstHold_eq (sensor beat : Bool) (c : Context) :
    c.firstHold sensor beat = { c with
      hold := { sensor, beat }, state := if ({ sensor, beat } : HoldSet) = {} then .ramping else .holding } := by
  unfold Context.firstHold
  cases sensor <;> cases beat <;> simp

/-- An accepted START changes the records of its strand and nothing else (R11 to R13). -/
theorem State.beginRun_eq {s : State} {lim : Limits} (k : StrandId) (p : ProfileId) (shadow : Bool) (v : Nat)
    (h : s.limits = some lim) : s.beginRun k p shadow v lim = s.upd k fun x => s.begun x p shadow v lim := by
  unfold State.beginRun
  dsimp only
  rw [State.enterSegment_eq (p := p) _ (by simp [State.ctx]) (by simp [State.ctx])]
  unfold State.updCtx
  simp only [State.upd_upd, State.upd_working]
  rw [State.effectiveTable_of_run (p := p) (n := (s.working.profile p).first) (by simp [State.ctx, State.loadSegment])
    (by simp [State.ctx, State.loadSegment])]
  refine State.upd_congr ?_
  have hl : ∀ f, (s.upd k f).lim = lim := fun f => State.lim_of_limits h
  have hv : min v lim.speed.maxSpeed * 64 / 64 = min v lim.speed.maxSpeed := by omega
  simp [State.begun, State.begunCtx, State.firstTable, Context.firstHold_eq, State.loadSegment, State.ctx, State.grantFor_upd,
    State.plant, hl, hv]

end Sys2Proof.Machine

namespace Sys2Proof.Machine

/-! ## The resets -/

theorem State.warmReset_strand (s : State) (k : StrandId) : s.warmReset.strand k = (s.strand k).warm := by
  have h : s.warmReset.strand k = (forStrands strandIds (fun k s => s.upd k Strand.warm) s).strand k := rfl
  rw [h, forStrands_upd_all (fun _ => Strand.warm), State.mapStrands_strand]

theorem State.powerOn_strand (s : State) (k : StrandId) : s.powerOn.strand k = {} := by
  simp [State.powerOn, State.reset, State.strand]

theorem State.endLoad_strand (s : State) (t : Nat) (k : StrandId) : (s.endLoad t).strand k = s.strand k := by
  unfold State.endLoad
  dsimp only
  split
  · rw [State.strand_raise]; rfl
  · rfl

/-! ## The records of every strand -/

/-- A PASSIVE strand with reset records, whatever is pending or pinned. -/
theorem Strand.sound_default (pending : Bool) : ({ ctx := { releasePending := pending } } : Strand).sound :=
  ⟨rfl, by simp, by simp, nofun, ⟨fun _ => rfl, fun _ => rfl, rfl, rfl⟩, fun _ => rfl, fun _ => rfl, Nat.zero_le _, by simp,
    nofun⟩

/-- A strand out of its run carries no grant and is out of the enrolled set. -/
theorem Strand.sound_idle {x : Strand} (hx : x.sound) (h : x.ctx.state = .passive ∨ x.ctx.state = .tracking) :
    x.blend = none ∧ x.mark = none ∧ x.grant = {} ∧ x.shadowGrant = {} ∧ x.silence = 0 ∧ x.originating = false := by
  obtain ⟨hc, hb, hm, -, ⟨hg, hsg, -, -⟩, -, hsi, -, ho, -⟩ := hx
  have hr : x.ctx.running = false := by rcases h with h | h <;> simp [Context.running, h]
  have hd : x.ctx.driving = false := by rcases h with h | h <;> simp [Context.driving, Context.realRun, hr, h]
  refine ⟨?_, ?_, hg hd, hsg (by simp [Context.shadowRun, hr]), hsi hd, ?_⟩
  · rw [← Option.not_isSome_iff_eq_none, hb]; rcases h with h | h <;> simp [h]
  · rw [← Option.not_isSome_iff_eq_none, hm, Context.sound_idle hr hc]; simp
  · rw [Bool.eq_false_iff]; intro e; simp [hsi hd] at ho; rw [ho] at e; cases e

theorem Strand.sound_track {x : Strand} (hx : x.sound) (h : x.ctx.state = .passive) :
    { x with ctx := x.ctx.toTracking, observed := none }.sound := by
  obtain ⟨hb, hm, hg, hsg, hsi, ho⟩ := Strand.sound_idle hx (.inl h)
  obtain ⟨-, -, -, -, ⟨-, -, hgd, hsgd⟩, -⟩ := hx
  exact ⟨rfl, by simp [hb, Context.toTracking], by simp [hm, Context.toTracking], nofun, ⟨fun _ => hg, fun _ => hsg, hgd, hsgd⟩,
    nofun, fun _ => hsi, by simp [hsi], by simp [hsi, ho], fun _ => rfl⟩

theorem State.begunCtx_running (s : State) (x : Strand) (p : ProfileId) (shadow : Bool) (v : Nat) (lim : Limits) :
    (s.begunCtx x p shadow v lim).running = true := by
  rw [Context.running_iff]
  simp only [State.begunCtx]
  split
  · exact .inl rfl
  · exact .inr rfl

theorem State.begunCtx_sound (s : State) (x : Strand) (p : ProfileId) (shadow : Bool) (v : Nat) (lim : Limits) :
    (s.begunCtx x p shadow v lim).sound := by
  refine (Context.sound_running (s.begunCtx_running x p shadow v lim)).mpr ⟨⟨rfl, rfl, rfl, rfl, rfl, rfl⟩, ?_⟩
  simp only [State.begunCtx]
  split <;> simp [*]

/-- The records after an accepted START are sound. -/
theorem State.begun_sound {s : State} {x : Strand} (p : ProfileId) (shadow : Bool) (v : Nat) (lim : Limits) (hx : x.sound)
    (h : x.ctx.state = .passive ∨ x.ctx.state = .tracking) : (s.begun x p shadow v lim).sound := by
  obtain ⟨hb, hm, hg, hsg, hsi, ho⟩ := Strand.sound_idle hx h
  have hr := s.begunCtx_running x p shadow v lim
  have hst := (Context.running_iff _).mp hr
  obtain ⟨-, -, -, -, ⟨-, -, hgd, hsgd⟩, -⟩ := hx
  have hs : (s.begunCtx x p shadow v lim).shadow = shadow := rfl
  have hdr : (s.begunCtx x p shadow v lim).driving = !shadow := by
    rw [Bool.eq_iff_iff, Context.driving_iff, Context.realRun_iff, hr]
    rcases hst with h | h <;> simp [h, hs]
  have hsh : (s.begunCtx x p shadow v lim).shadowRun = shadow := by
    rw [Bool.eq_iff_iff, Context.shadowRun_iff, hr, hs]; simp
  refine ⟨s.begunCtx_sound x p shadow v lim, ?_, ?_, nofun, ⟨?_, ?_, ?_, ?_⟩, ?_, fun _ => rfl, Nat.zero_le _, ?_, nofun⟩
  · simp only [State.begun, hb]; rcases hst with h | h <;> simp [h]
  · simp [State.begun, State.begunCtx, hm]
  · simp only [State.begun, hdr]; cases shadow <;> simp [hg]
  · simp only [State.begun, hsh]; cases shadow <;> simp [hsg]
  · simp only [State.begun]; split
    · exact hgd
    · rfl
  · simp only [State.begun]; split
    · rfl
    · exact hsgd
  · simp only [State.begun]; rcases hst with h | h <;> simp [h]
  · simp [State.begun]

theorem Strand.sound_release {x : Strand} (hx : x.sound) : { x with ctx := x.ctx.removeReason .command }.sound :=
  Strand.sound_ctx hx (Context.removeReason_sound _ hx.1) (by simp) (fun hr => by rw [Context.removeReason_idle _ hr])
    (by simp) (by simp)

/-- A change of one strand keeps what holds of every strand, where it keeps it of that one. -/
theorem State.upd_all {s : State} {k : StrandId} {f : Strand → Strand} {P : Strand → Prop} (hs : ∀ j, P (s.strand j))
    (h : P (s.strand k) → P (f (s.strand k))) (j : StrandId) : P ((s.upd k f).strand j) := by
  rw [State.strand_upd]
  split
  · exact h (hs k)
  · exact hs j

/-- Every effect keeps the records of every strand sound. -/
theorem State.Effect.strandsSound {runs : Prop} {s t : State} (h : State.Effect runs s t) (hs : s.strandsSound) :
    t.strandsSound := by
  cases h with
  | moves h => exact fun k => (h.strands k).sound (hs k)
  | beatUnit _ _ _ _ hm => exact fun k => (hm k).sound (hs k)
  | dip _ _ _ hm => exact fun k => (hm k).sound (hs k)
  | store same => exact fun k => State.strand_of_strands same k ▸ hs k
  | map => exact hs
  | track w k _ _ hp => exact State.upd_all hs fun hx => Strand.sound_track hx hp
  | start _ w k p shadow v lim _ _ hst _ hlim _ =>
    rw [State.beginRun_eq k p shadow v hlim]
    exact State.upd_all hs fun hx => State.begun_sound p shadow v lim hx hst
  | release _ k => exact State.upd_all hs Strand.sound_release
  | pin k o => exact State.upd_all hs id
  | warmReset => exact fun k => State.warmReset_strand s k ▸ Strand.sound_default _
  | powerOn => exact fun k => State.powerOn_strand s k ▸ Strand.sound_default _
  | endLoad n => exact fun k => State.endLoad_strand s n k ▸ hs k

/-- Settles O54: a step is a chain of effects, and each keeps the records of every strand sound. -/
theorem strandRecordsStaySound : Obligations.StrandRecordsStaySound := by
  intro s t hs h
  obtain ⟨rest, he⟩ := step_effects h
  exact he.keeps (fun _ _ => State.Effect.strandsSound) hs

end Sys2Proof.Machine

/-! The dip state, the beat unit, the start-up load, the commit marker and the slot map stay consistent. -/

namespace Sys2Proof.Machine

/-! ## What moves leave of a strand -/

/-- A PASSIVE strand moves to no other state. -/
theorem Strand.Move.passive {i : Image} {x y : Strand} (h : Strand.Move i x y) (hx : x.ctx.state = .passive) :
    y.ctx.state = .passive := by
  have hr : x.ctx.running = false := by simp [Context.running, hx]
  have hreal : x.ctx.realRun = false := by simp [Context.realRun, hr]
  cases h with
  | add r => rw [Context.addReason_idle r hr]; exact hx
  | remove => rw [Context.removeReason_idle _ hr]; exact hx
  | note c h => simp [hr] at h
  | trip why h => simp [hreal, hx] at h
  | leave due o pending h => exact absurd hx h
  | handback n h => simp [hreal] at h
  | untrack h => simp [hx] at h
  | silence h => simp [Context.driving, hreal, hx] at h
  | _ => exact hx

/-- Only COOL_PIN and the resets change a pin (R51, R69). -/
theorem Strand.Move.pin {i : Image} {x y : Strand} (h : Strand.Move i x y) : y.pin = x.pin := by
  cases h with
  | silence => unfold Strand.countSilence; split <;> rfl
  | _ => rfl

theorem Strand.Moves.passive {i : Image} {x y : Strand} (h : Strand.Moves i x y) (hx : x.ctx.state = .passive) :
    y.ctx.state = .passive := Strand.Moves.keeps (P := fun x => x.ctx.state = .passive) (fun _ _ => Strand.Move.passive) h hx

theorem Strand.Moves.pin {i : Image} {x y : Strand} (h : Strand.Moves i x y) : y.pin = x.pin :=
  Strand.Moves.keeps (P := fun z => z.pin = x.pin) (fun _ _ hm hz => hm.pin.trans hz) h rfl

/-! ## The dip state -/

theorem State.dipSound_frame (s : State) : s.frame.dipSound ↔ s.dipSound := by
  simp [State.dipSound, State.frame]

theorem State.warmReset_frame (s : State) : s.warmReset.frame
    = { s.frame with
        plantIn := { dip := false, inp := { loss := .nodata } }, dip := .normal, switchTo := none, fail := false
        latchOpen := false } := by
  unfold State.warmReset
  rw [forStrands_upd_all]
  rfl

theorem State.endLoad_frame (s : State) (n : Nat) : (s.endLoad n).frame
    = { s.frame with
        working := s.loadedImage, loading := false, localNext := some (n + 1000 * s.loadedImage.config.period)
        switchTo := if s.loadedImage.config.startSource = .localGen then none else some s.loadedImage.config.startSource } := by
  unfold State.endLoad
  dsimp only
  split
  · rw [State.frame_raise]; rfl
  · rfl

/-- The dip state and the flag in force, from the frame alone. -/
theorem State.Effect.dipSound {runs : Prop} {s t : State} (h : State.Effect runs s t) (hs : s.dipSound) : t.dipSound := by
  rw [← State.dipSound_frame] at hs ⊢
  cases h with
  | moves h => rw [h.frame]; exact hs
  | beatUnit _ _ _ _ _ frame => rw [frame]; exact hs
  | dip d flag loss _ frame follows seen =>
    rw [frame]
    refine ⟨?_, seen⟩
    rcases follows with ⟨rfl, rfl⟩ | h
    · exact hs.1
    · exact h
  | store _ frame => rw [frame]; exact hs
  | map => exact hs
  | track => exact hs
  | start _ w k p shadow v lim _ _ _ _ hlim _ => rw [State.beginRun_eq k p shadow v hlim]; exact hs
  | release => exact hs
  | pin => exact hs
  | warmReset => rw [State.warmReset_frame]; exact ⟨by simp, fun _ => rfl⟩
  | powerOn => exact ⟨by simp [State.powerOn, State.reset, State.frame], fun _ => rfl⟩
  | endLoad n => rw [State.endLoad_frame]; exact hs

/-! ## The beat unit -/

theorem State.beatSound_frame (s : State) : s.frame.beatSound ↔ s.beatSound := Iff.rfl

/-- The fail flag and the pending target against the current source; the start-up source is pending with LOCAL current. -/
theorem State.Effect.beatSound {runs : Prop} {s t : State} (h : State.Effect runs s t) (hl : s.loadSound) (hs : s.beatSound) :
    t.beatSound := by
  rw [← State.beatSound_frame] at hs ⊢
  cases h with
  | moves h => rw [h.frame]; exact hs
  | beatUnit current switchTo fail _ _ frame _ failing pending =>
    rw [frame]
    refine ⟨fun hf => ?_, fun src hsrc => ?_⟩
    · rcases failing hf with h | ⟨h, rfl⟩
      · exact h
      · exact hs.1 h
    · rcases pending src hsrc with h | ⟨h, rfl⟩
      · exact h
      · exact hs.2 src h
  | dip _ _ _ _ frame => rw [frame]; exact hs
  | store _ frame => rw [frame]; exact hs
  | map => exact hs
  | track => exact hs
  | start _ w k p shadow v lim _ _ _ _ hlim _ => rw [State.beginRun_eq k p shadow v hlim]; exact hs
  | release => exact hs
  | pin => exact hs
  | warmReset => rw [State.warmReset_frame]; exact ⟨nofun, nofun⟩
  | powerOn => exact ⟨nofun, nofun⟩
  | endLoad n hload =>
    obtain ⟨-, hcur, hfail, -⟩ := hl hload
    rw [State.endLoad_frame]
    refine ⟨fun hf => ?_, fun src hsrc => ?_⟩
    · rw [show s.fail = true from hf] at hfail; cases hfail
    · have hc : s.frame.current = .localGen := hcur
      dsimp only at hsrc ⊢
      rw [hc]
      split at hsrc
      · cases hsrc
      · next hne => cases hsrc; exact hne

/-! ## The start-up load -/

/-- While the load runs, an effect that is not the load's own leaves the units that the load holds at rest. -/
theorem State.loadSound_keeps {s t : State} (hs : s.loadSound) (hl : t.loading = s.loading)
    (hk : s.loading = true → ∀ k, (s.ctx k).state = .passive → (t.ctx k).state = .passive ∧ (t.strand k).pin = (s.strand k).pin)
    (hu : s.loading = true → t.current = s.current ∧ t.fail = s.fail ∧ t.switchTo = s.switchTo ∧ t.localNext = s.localNext
      ∧ t.op = s.op ∧ t.latchOpen = s.latchOpen) : t.loadSound := by
  intro h
  have hload := hl.symm.trans h
  obtain ⟨hstr, h1, h2, h3, h4, h5, h6⟩ := hs hload
  obtain ⟨e1, e2, e3, e4, e5, e6⟩ := hu hload
  refine ⟨fun k => ?_, e1.trans h1, e2.trans h2, e3.trans h3, e4.trans h4, e5.trans h5, e6.trans h6⟩
  obtain ⟨hp, hpin⟩ := hk hload k (hstr k).1
  exact ⟨hp, hpin.trans (hstr k).2⟩

theorem State.loadSound_of_started {t : State} (h : t.loading = false) : t.loadSound := fun hl => by rw [h] at hl; cases hl

/-- The effects that the load excludes, by the local generator, the store operation or the loading bit. -/
theorem State.started_of_localNext {s : State} (hs : s.loadSound) (h : s.loading = false ∨ s.localNext.isSome = true) :
    s.loading = false := by
  rcases h with h | h
  · exact h
  · by_contra hl
    obtain ⟨-, -, -, -, hn, -⟩ := hs (by simpa using hl)
    rw [hn] at h; cases h

theorem State.started_of_op {s : State} (hs : s.loadSound) (h : s.loading = false ∨ s.op ≠ .idle) : s.loading = false := by
  rcases h with h | h
  · exact h
  · by_contra hl
    obtain ⟨-, -, -, -, -, ho, -⟩ := hs (by simpa using hl)
    exact h ho

theorem State.Effect.loadSound {runs : Prop} {s t : State} (h : State.Effect runs s t) (hs : s.loadSound) : t.loadSound := by
  have strands : ∀ {u : State}, (∀ k, Strand.Moves s.working (s.strand k) (u.strand k)) → s.loading = true →
      ∀ k, (s.ctx k).state = .passive → (u.ctx k).state = .passive ∧ (u.strand k).pin = (s.strand k).pin :=
    fun hm _ k hp => ⟨(hm k).passive hp, (hm k).pin⟩
  cases h with
  | moves h =>
    have hf := h.frame
    refine State.loadSound_keeps hs (State.loading_of_frame hf) (strands h.strands) fun _ => ?_
    exact ⟨congrArg (·.current) hf, congrArg (·.fail) hf, congrArg (·.switchTo) hf, congrArg (·.localNext) hf,
      congrArg (·.op) hf, congrArg (·.latchOpen) hf⟩
  | beatUnit _ _ _ _ _ frame started =>
    refine State.loadSound_of_started ?_
    have hl : t.loading = s.loading := congrArg (·.loading) frame
    exact hl.trans (State.started_of_localNext hs started)
  | dip _ _ _ hm hf =>
    refine State.loadSound_keeps hs (congrArg (·.loading) hf) (strands hm) fun _ => ?_
    exact ⟨congrArg (·.current) hf, congrArg (·.fail) hf, congrArg (·.switchTo) hf, congrArg (·.localNext) hf,
      congrArg (·.op) hf, congrArg (·.latchOpen) hf⟩
  | store _ frame started =>
    have hl : t.loading = s.loading := congrArg (·.loading) frame
    exact State.loadSound_of_started (hl.trans (State.started_of_op hs started))
  | map _ _ started => exact State.loadSound_of_started started
  | track _ _ started => exact State.loadSound_of_started started
  | start _ w k p shadow v lim started _ _ _ hlim _ =>
    rw [State.beginRun_eq k p shadow v hlim]
    exact State.loadSound_of_started started
  | release _ k =>
    refine State.loadSound_keeps hs rfl (fun _ j hp => ?_) fun _ => ⟨rfl, rfl, rfl, rfl, rfl, rfl⟩
    by_cases hj : j = k
    · subst hj
      have hr : (s.strand j).ctx.running = false := by simp [Context.running, show (s.strand j).ctx.state = _ from hp]
      simp only [State.ctx, State.updCtx, State.strand_upd_same, Context.removeReason_idle _ hr]
      exact ⟨hp, trivial⟩
    · simpa [State.ctx, State.updCtx, hj] using hp
  | pin _ _ started => exact State.loadSound_of_started started
  | warmReset =>
    have hf := State.warmReset_frame s
    have hl : s.warmReset.loading = s.loading := congrArg (·.loading) hf
    intro h
    obtain ⟨-, h1, -, -, h4, h5, -⟩ := hs (hl.symm.trans h)
    refine ⟨fun k => ?_, ?_, congrArg (·.fail) hf, congrArg (·.switchTo) hf, ?_, ?_, congrArg (·.latchOpen) hf⟩
    · rw [State.ctx, State.warmReset_strand]; exact ⟨rfl, rfl⟩
    · exact (congrArg (·.current) hf).trans h1
    · exact (congrArg (·.localNext) hf).trans h4
    · exact (congrArg (·.op) hf).trans h5
  | powerOn =>
    exact fun _ => ⟨fun k => by rw [State.ctx, State.powerOn_strand]; exact ⟨rfl, rfl⟩, rfl, rfl, rfl, rfl, rfl, rfl⟩
  | endLoad n => exact State.loadSound_of_started (congrArg (·.loading) (State.endLoad_frame s n))

/-! ## The commit marker -/

theorem State.commitSound_frame (s : State) : s.frame.commitSound ↔ s.commitSound := Iff.rfl

theorem State.Effect.commitSound {runs : Prop} {s t : State} (h : State.Effect runs s t) (hs : s.commitSound) : t.commitSound := by
  rw [← State.commitSound_frame] at hs ⊢
  cases h with
  | moves h => rw [h.frame]; exact hs
  | beatUnit _ _ _ _ _ frame => rw [frame]; exact hs
  | dip _ _ _ _ frame => rw [frame]; exact hs
  | store _ _ _ _ _ _ commit =>
    rcases commit with ⟨ho, hi⟩ | h
    · intro i h
      exact hi.trans (hs i (ho.symm.trans h))
    · exact h
  | map => exact hs
  | track => exact hs
  | start _ w k p shadow v lim _ _ _ _ hlim _ => rw [State.beginRun_eq k p shadow v hlim]; exact hs
  | release => exact hs
  | pin => exact hs
  | warmReset => rw [State.warmReset_frame]; exact hs
  | powerOn => exact nofun
  | endLoad n => rw [State.endLoad_frame]; exact hs

/-! ## The slot map -/

/-- A strand is in the mask of the active slot map (R150). -/
def StoredConfig.maps (c : StoredConfig) (k : StrandId) : Prop := c.mapActive = true ∧ c.inMask k = true

theorem State.mapSound_iff (s : State) : s.mapSound ↔ ∀ k, (s.ctx k).state ≠ .passive → s.working.config.maps k := Iff.rfl

theorem StoredConfig.maps_congr {c d : StoredConfig} (hb : d.slotBase = c.slotBase) (hm : d.mask = c.mask) (k : StrandId) :
    d.maps k ↔ c.maps k := by
  simp only [StoredConfig.maps, StoredConfig.mapActive, StoredConfig.inMask, hb, hm]

/-- The configuration in use after the load is that of the working image (R158). -/
theorem State.maps_of_names {s : State} {w : Word} {k : StrandId} (hl : s.loading = false) (h : s.names w k) :
    s.working.config.maps k := by
  obtain ⟨h1, -, h2⟩ := h
  have hc : s.config = s.working.config := by simp [State.config, hl]
  rw [hc] at h1 h2
  exact ⟨h1, h2⟩

/-- A named strand may leave PASSIVE. -/
theorem State.mapSound_upd {s : State} {k : StrandId} {f : Strand → Strand} (hs : s.mapSound) (hk : s.working.config.maps k) :
    (s.upd k f).mapSound := fun j hj => by
  by_cases h : j = k
  · subst h; exact hk
  · exact hs j (by simpa [State.ctx, h] using hj)

theorem State.mapSound_of_moves {s t : State} (hs : s.mapSound)
    (hm : ∀ k, Strand.Moves s.working (s.strand k) (t.strand k)) (hw : t.working = s.working) : t.mapSound := fun k hk => by
  rw [hw]
  exact hs k fun hp => hk ((hm k).passive hp)

theorem State.Effect.mapSound {runs : Prop} {s t : State} (h : State.Effect runs s t) (hl : s.loadSound) (hs : s.mapSound) :
    t.mapSound := by
  cases h with
  | moves h => exact State.mapSound_of_moves hs h.strands h.working
  | beatUnit _ _ _ _ hm frame => exact State.mapSound_of_moves hs hm (congrArg (·.working) frame)
  | dip _ _ _ hm frame => exact State.mapSound_of_moves hs hm (congrArg (·.working) frame)
  | store same _ _ map =>
    refine fun k hk => (StoredConfig.maps_congr map.1 map.2 k).mpr (hs k ?_)
    rwa [State.ctx, State.strand_of_strands same k] at hk
  | map base mask started kept =>
    intro k hk
    obtain ⟨ha, hin⟩ := hs k hk
    exact kept k hk ha hin
  | track w k started named => exact State.mapSound_upd hs (State.maps_of_names started named)
  | start _ w k p shadow v lim started named _ _ hlim _ =>
    rw [State.beginRun_eq k p shadow v hlim]
    exact State.mapSound_upd hs (State.maps_of_names started named)
  | release _ k =>
    intro j hj
    refine hs j fun hp => hj ?_
    rw [State.ctx_updCtx]
    split
    · next h => rw [← h, Context.removeReason_idle _ (by simp [Context.running, hp])]; exact hp
    · exact hp
  | pin k o =>
    intro j hj
    refine hs j fun hp => hj ?_
    simp only [State.ctx, State.strand_upd]
    split
    · next h => rw [← h]; exact hp
    · exact hp
  | warmReset => intro k hk; rw [State.ctx, State.warmReset_strand] at hk; exact absurd rfl hk
  | powerOn => intro k hk; rw [State.ctx, State.powerOn_strand] at hk; exact absurd rfl hk
  | endLoad n hload =>
    obtain ⟨hp, -⟩ := hl hload
    intro k hk
    rw [State.ctx, State.endLoad_strand] at hk
    exact absurd (hp k).1 hk

/-- Settles O56: each effect keeps the dip state, the beat unit, the load, the commit marker and the slot map consistent, given the
load's own condition. -/
theorem unitsStayConsistent : Obligations.UnitsStayConsistent := by
  intro s t hd hb hl hc hm h
  obtain ⟨rest, he⟩ := step_effects h
  refine he.keeps (P := fun u => u.dipSound ∧ u.beatSound ∧ u.loadSound ∧ u.commitSound ∧ u.mapSound) ?_ ⟨hd, hb, hl, hc, hm⟩
  rintro u v he ⟨hd, hb, hl, hc, hm⟩
  exact ⟨he.dipSound hd, he.beatSound hl hb, he.loadSound hl, he.commitSound hc, he.mapSound hl hm⟩

end Sys2Proof.Machine

/-! Speeds stay within the limits, and running strands' grants at the flows of their speed. -/

namespace Sys2Proof.Machine

/-! ## One strand under an image -/

/-- A strand keeps within the tables of an image: the limits are present while it runs, blends or is tripped; while it runs, its
speeds lie within the maximum speed, and its grant carries the flows of its speed under its table (R9, R40, R57, R161). -/
structure Strand.within (i : Image) (x : Strand) : Prop where
  limits : x.ctx.running = true ∨ x.ctx.driving = true → i.limits.isSome = true
  speeds : x.ctx.running = true → x.ctx.acc ≤ i.alone.lim.speed.maxSpeed * 64
    ∧ (∀ v, x.ctx.target = some v → v ≤ i.alone.lim.speed.maxSpeed)
    ∧ ∀ m, x.mark = some m → m ≤ i.alone.lim.speed.maxSpeed * 64
  real : x.ctx.realRun = true → ∃ t, x.grant = i.alone.grantFor x.grant.speed t
  shadow : x.ctx.shadowRun = true → ∃ t, x.shadowGrant = i.alone.grantFor x.shadowGrant.speed t

theorem State.within_iff (s : State) :
    (∀ k, (s.strand k).within s.working) ↔ s.limitsSound ∧ s.speedsSound ∧ s.flowsSound :=
  ⟨fun h => ⟨fun k => (h k).limits, fun k => (h k).speeds, fun k => ⟨(h k).real, (h k).shadow⟩⟩,
    fun ⟨hl, hs, hf⟩ k => ⟨hl k, hs k, (hf k).1, (hf k).2⟩⟩

/-- A strand that neither runs nor drives. -/
theorem Strand.within_idle {i : Image} {x : Strand} (hr : x.ctx.running = false) (hd : x.ctx.driving = false) : x.within i where
  limits h := by simp [hr, hd] at h
  speeds h := by simp [hr] at h
  real h := by simp [Context.realRun, hr] at h
  shadow h := by simp [Context.shadowRun, hr] at h

/-- A strand that blends or is tripped needs the limits and no more. -/
theorem Strand.within_driven {i : Image} {x : Strand} (hr : x.ctx.running = false) (hl : i.limits.isSome = true) :
    x.within i where
  limits _ := hl
  speeds h := by simp [hr] at h
  real h := by simp [Context.realRun, hr] at h
  shadow h := by simp [Context.shadowRun, hr] at h

section
variable {i : Image} {x : Strand} {d : Context}

/-- A change of the context that keeps the run, with its speeds still within the maximum speed. -/
theorem Strand.within_ctx (hx : x.within i) (hr : d.running = x.ctx.running)
    (hi : x.ctx.running = false → d.state = x.ctx.state) (hsh : d.shadow = x.ctx.shadow)
    (hs : x.ctx.running = true → d.acc ≤ i.alone.lim.speed.maxSpeed * 64
      ∧ ∀ v, d.target = some v → v ≤ i.alone.lim.speed.maxSpeed) : { x with ctx := d }.within i where
  limits h := by
    refine hx.limits ?_
    cases hrun : x.ctx.running with
    | true => exact .inl rfl
    | false =>
      have hreal : d.realRun = x.ctx.realRun := Context.realRun_congr hr hsh
      refine h.imp (fun h => ?_) fun h => ?_
      · rw [hr, hrun] at h; cases h
      · rw [Context.driving_iff, hreal, hi hrun] at h; exact (Context.driving_iff _).mpr h
  speeds h := ⟨(hs (hr ▸ h)).1, (hs (hr ▸ h)).2, (hx.speeds (hr ▸ h)).2.2⟩
  real h := hx.real (by rw [← Context.realRun_congr hr hsh]; exact h)
  shadow h := hx.shadow (by rw [← Context.shadowRun_congr hr hsh]; exact h)

/-- A change of the context that leaves state, accumulator and target. -/
theorem Strand.within_same (hx : x.within i) (hr : d.running = x.ctx.running)
    (hi : x.ctx.running = false → d.state = x.ctx.state) (hsh : d.shadow = x.ctx.shadow) (ha : d.acc = x.ctx.acc)
    (ht : d.target = x.ctx.target) : { x with ctx := d }.within i :=
  Strand.within_ctx hx hr hi hsh fun h => by rw [ha, ht]; exact ⟨(hx.speeds h).1, (hx.speeds h).2.1⟩

/-- A change of the records beside state, speeds, low mark and grants. -/
theorem Strand.within_of {y : Strand} (hx : x.within i) (hs : y.ctx.state = x.ctx.state) (hsh : y.ctx.shadow = x.ctx.shadow)
    (ha : y.ctx.acc = x.ctx.acc) (ht : y.ctx.target = x.ctx.target) (hm : ∀ m, y.mark = some m → x.mark = some m)
    (hg : y.grant = x.grant) (hsg : y.shadowGrant = x.shadowGrant) : y.within i := by
  have hr : y.ctx.running = x.ctx.running := Context.running_congr hs
  have hreal : y.ctx.realRun = x.ctx.realRun := Context.realRun_congr hr hsh
  refine ⟨fun h => hx.limits ?_, fun h => ?_, fun h => ?_, fun h => ?_⟩
  · rwa [Context.driving_iff, hr, hreal, hs, ← Context.driving_iff] at h
  · obtain ⟨h1, h2, h3⟩ := hx.speeds (hr ▸ h)
    rw [ha, ht]
    exact ⟨h1, h2, fun m hy => h3 m (hm m hy)⟩
  · rw [hg]; exact hx.real (hreal ▸ h)
  · rw [hsg]; exact hx.shadow (by rw [← Context.shadowRun_congr hr hsh]; exact h)

end

theorem Context.addReason_acc (r : Reason) (c : Context) :
    (c.addReason r).acc = c.acc ∧ (c.addReason r).target = c.target := by
  unfold Context.addReason; split <;> exact ⟨rfl, rfl⟩

theorem Context.removeReason_acc (r : Reason) (c : Context) :
    (c.removeReason r).acc = c.acc ∧ (c.removeReason r).target = c.target := by
  unfold Context.removeReason; split <;> exact ⟨rfl, rfl⟩

theorem State.changeSpeed_le (s : State) : s.changeSpeed ≤ s.lim.speed.maxSpeed := Nat.min_le_right _ _

/-- Target and low mark of the change override lie within the maximum speed (R95). -/
theorem Strand.within_override {i : Image} {x : Strand} (hx : x.within i) (hr : x.ctx.realRun = true) (r : Option Nat) :
    { x with
      mark := some (min x.ctx.acc (i.alone.changeSpeed * 64))
      ctx := { x.ctx with
        enrolled := true
        target := some (if i.alone.changeSpeed * 64 < x.ctx.acc then i.alone.changeSpeed else x.ctx.acc / 64)
        rate := r } }.within i := by
  have hc := State.changeSpeed_le i.alone
  refine ⟨fun _ => hx.limits (.inl ((Context.realRun_iff _).mp hr).1), fun h => ⟨(hx.speeds h).1, ?_, ?_⟩, hx.real, hx.shadow⟩
  · rintro v ⟨⟩; split <;> omega
  · rintro m ⟨⟩; omega

/-- Every move keeps a sound strand within the tables it moves under. -/
theorem Strand.Move.within {i : Image} {x y : Strand} (h : Strand.Move i x y) (hs : x.sound) (hx : x.within i) : y.within i := by
  have run : ∀ {p}, x.ctx.profile = some p → x.ctx.running = true :=
    fun hp => Context.running_of_profile hs.1 (by rw [hp]; rfl)
  cases h with
  | input r => exact Strand.within_of hx rfl rfl rfl rfl (fun _ => id) rfl rfl
  | add r =>
    exact Strand.within_same hx (by simp) (fun hr => by rw [Context.addReason_idle r hr]) (by simp)
      (Context.addReason_acc r _).1 (Context.addReason_acc r _).2
  | @remove r h =>
    exact Strand.within_same hx (by simp) (fun hr => by rw [Context.removeReason_idle r hr]) (by simp)
      (Context.removeReason_acc r _).1 (Context.removeReason_acc r _).2
  | quiet => exact Strand.within_same hx rfl (fun _ => rfl) rfl rfl rfl
  | reseeded => exact Strand.within_same hx rfl (fun _ => rfl) rfl rfl rfl
  | note c h hc =>
    exact Strand.within_same hx (by rw [hc]; rfl) (fun _ => by rw [hc]) (by rw [hc]) (by rw [hc]) (by rw [hc])
  | lower a ha =>
    exact Strand.within_ctx hx rfl (fun _ => rfl) rfl fun hr => ⟨ha.trans (hx.speeds hr).1, (hx.speeds hr).2.1⟩
  | advance a h ha =>
    obtain ⟨h1, h2, h3⟩ := hx.speeds h
    refine Strand.within_ctx hx rfl (fun _ => rfl) rfl fun _ => ⟨?_, h2⟩
    rcases ha with ha | ⟨v, hv, ha⟩ | ⟨m, hm, ha⟩
    · exact ha.trans h1
    · exact ha.trans (Nat.mul_le_mul_right 64 (h2 v hv))
    · exact ha.trans (h3 m hm)
  | load p n hp hn =>
    refine Strand.within_ctx hx rfl (fun _ => rfl) rfl fun hr => ⟨(hx.speeds hr).1, ?_⟩
    rintro v ⟨⟩; exact Nat.min_le_right _ _
  | enter p n hp hn =>
    refine Strand.within_ctx hx rfl (fun _ => rfl) rfl fun hr => ⟨(hx.speeds hr).1, ?_⟩
    rintro v ⟨⟩; exact Nat.min_le_right _ _
  | finish h => exact Strand.within_same hx rfl (fun _ => rfl) rfl rfl rfl
  | override h => exact Strand.within_override hx (h.elim id fun he => hs.2.2.2.1 he) _
  | unenroll => exact Strand.within_of hx rfl rfl rfl rfl nofun rfl rfl
  | trip why h =>
    refine Strand.within_driven rfl (hx.limits ?_)
    exact .inr ((Context.driving_iff _).mpr (h.imp id .inl))
  | leave due o pending h => exact Strand.within_idle rfl rfl
  | handback n h he => exact Strand.within_driven rfl (hx.limits (.inl ((Context.realRun_iff _).mp h).1))
  | latch b h => exact Strand.within_of hx rfl rfl rfl rfl (fun _ => id) rfl rfl
  | blend b g h =>
    refine Strand.within_driven (by simp [Context.running, h]) (hx.limits (.inr ?_))
    exact (Context.driving_iff _).mpr (.inr (.inl h))
  | grant v t h => exact ⟨hx.limits, hx.speeds, fun _ => ⟨t, rfl⟩, hx.shadow⟩
  | shadowGrant v t h => exact ⟨hx.limits, hx.speeds, hx.real, fun _ => ⟨t, rfl⟩⟩
  | silence h =>
    unfold Strand.countSilence
    split
    · exact Strand.within_of hx rfl rfl rfl rfl (fun _ => id) rfl rfl
    · exact hx
  | observe o => exact Strand.within_of hx rfl rfl rfl rfl (fun _ => id) rfl rfl
  | answered h => exact Strand.within_of hx rfl rfl rfl rfl (fun _ => id) rfl rfl
  | untrack h => exact Strand.within_idle rfl rfl

theorem Strand.Moves.within {i : Image} {x y : Strand} (h : Strand.Moves i x y) (hs : x.sound) (hx : x.within i) : y.within i :=
  (Strand.Moves.keeps (P := fun x => x.sound ∧ x.within i) (fun _ _ hm hx => ⟨hm.sound hx.1, hm.within hx.1 hx.2⟩) h ⟨hs, hx⟩).2

/-! ## A strand while the tables change -/

theorem Image.lim_congr {i j : Image} (h : j.limits = i.limits) : j.alone.lim = i.alone.lim := by
  have hi : i.alone.limits = i.limits := rfl
  have hj : j.alone.limits = j.limits := rfl
  unfold State.lim; rw [hi, hj, h]

/-- The flows of a speed come from the limits and the table asked for (R52). -/
theorem Image.grantFor_congr {i j : Image} (hl : j.limits = i.limits) {t : TableId} (ht : j.tables[t] = i.tables[t]) (v : Nat) :
    j.alone.grantFor v t = i.alone.grantFor v t := by
  have hi : i.alone.working = i := rfl
  have hj : j.alone.working = j := rfl
  unfold State.grantFor State.zoneFlows
  rw [Image.lim_congr hl, hi, hj, ht]

/-- A strand stays within the tables while those it uses stay (R161). -/
theorem Strand.within_image {i j : Image} {x : Strand} (hx : x.within i)
    (hl : j.limits = i.limits ∨ (x.ctx.running = false ∧ x.ctx.driving = false))
    (ht : ∀ t, x.grant.table = some t ∨ x.shadowGrant.table = some t → j.tables[t] = i.tables[t]) : x.within j := by
  rcases hl with hl | ⟨hr, hd⟩
  · refine ⟨fun h => by rw [hl]; exact hx.limits h, fun h => by rw [Image.lim_congr hl]; exact hx.speeds h, fun h => ?_, fun h => ?_⟩
    · obtain ⟨t, e⟩ := hx.real h
      exact ⟨t, e.trans (Image.grantFor_congr hl (ht t (.inl (by rw [e]; rfl))) _).symm⟩
    · obtain ⟨t, e⟩ := hx.shadow h
      exact ⟨t, e.trans (Image.grantFor_congr hl (ht t (.inr (by rw [e]; rfl))) _).symm⟩
  · exact Strand.within_idle hr hd

/-- With the limits out of use no strand runs or drives (R161). -/
theorem State.idle_of_limitsInUse {s : State} (h : s.limitsInUse = false) (k : StrandId) :
    (s.ctx k).running = false ∧ (s.ctx k).driving = false := by
  simp only [State.limitsInUse, State.anyDriving, State.anyShadow, Bool.or_eq_false_iff, List.any_eq_false] at h
  obtain ⟨h1, h2⟩ := h
  have hd : (s.ctx k).driving = false := by simpa using h1 k (mem_strandIds k)
  have hs : (s.ctx k).shadowRun = false := by simpa using h2 k (mem_strandIds k)
  refine ⟨?_, hd⟩
  by_contra hr
  have hr : (s.ctx k).running = true := by simpa using hr
  cases hsh : (s.ctx k).shadow with
  | true => rw [(Context.shadowRun_iff _).mpr ⟨hr, hsh⟩] at hs; cases hs
  | false => rw [(Context.driving_iff _).mpr (.inl ((Context.realRun_iff _).mpr ⟨hr, hsh⟩))] at hd; cases hd

/-- A table that a grant names is in use (R161). -/
theorem State.tableInUse_of_grant {s : State} {k : StrandId} {t : TableId}
    (h : (s.strand k).grant.table = some t ∨ (s.strand k).shadowGrant.table = some t) : s.tableInUse t = true := by
  have hk : s.strandUsesTable t k = true := by
    unfold State.strandUsesTable
    rcases h with h | h <;> simp [h]
  simp only [State.tableInUse, Bool.or_eq_true, List.any_eq_true]
  exact .inl ⟨k, mem_strandIds k, hk⟩

/-! ## Every strand -/

theorem State.begun_within {s : State} {lim : Limits} (x : Strand) (p : ProfileId) (shadow : Bool) (v : Nat)
    (hm : x.mark = none) (h : s.limits = some lim) : (s.begun x p shadow v lim).within s.working := by
  have hl : s.working.alone.lim = lim := State.lim_of_limits h
  have hsh : (s.begun x p shadow v lim).ctx.shadow = shadow := rfl
  refine ⟨fun _ => ?_, fun _ => ⟨?_, ?_, ?_⟩, fun hr => ?_, fun hr => ?_⟩
  · rw [show s.working.limits = some lim from h]; rfl
  · rw [hl]; exact Nat.mul_le_mul_right 64 (Nat.min_le_right _ _)
  · rw [hl]; rintro w ⟨⟩; exact Nat.min_le_right _ _
  · intro m hm'; rw [show (s.begun x p shadow v lim).mark = x.mark from rfl, hm] at hm'; cases hm'
  · have : shadow = false := hsh ▸ ((Context.realRun_iff _).mp hr).2
    subst this
    exact ⟨s.firstTable x p, rfl⟩
  · have : shadow = true := hsh ▸ ((Context.shadowRun_iff _).mp hr).2
    subst this
    exact ⟨s.firstTable x p, rfl⟩

theorem Strand.within_release {i : Image} {x : Strand} (hx : x.within i) :
    { x with ctx := x.ctx.removeReason .command }.within i :=
  Strand.within_same hx (by simp) (fun hr => by rw [Context.removeReason_idle _ hr]) (by simp)
    (Context.removeReason_acc _ _).1 (Context.removeReason_acc _ _).2

/-- Every effect keeps sound strands within the tables. -/
theorem State.Effect.within {runs : Prop} {s t : State} (h : State.Effect runs s t) (hs : s.strandsSound) (hl : s.loadSound)
    (hx : ∀ k, (s.strand k).within s.working) : ∀ k, (t.strand k).within t.working := by
  have moves : ∀ {u : State}, (∀ k, Strand.Moves s.working (s.strand k) (u.strand k)) → u.working = s.working →
      ∀ k, (u.strand k).within u.working := fun hm hw k => hw ▸ (hm k).within (hs k) (hx k)
  cases h with
  | moves h => exact moves h.strands h.working
  | beatUnit _ _ _ _ hm frame => exact moves hm (congrArg (·.working) frame)
  | dip _ _ _ hm frame => exact moves hm (congrArg (·.working) frame)
  | store same _ _ _ limits tables =>
    intro k
    rw [State.strand_of_strands same k]
    refine Strand.within_image (hx k) (limits.imp id fun h => State.idle_of_limitsInUse h k) fun n hn => ?_
    refine (tables n).resolve_right ?_
    rw [State.tableInUse_of_grant hn]; simp
  | map => exact fun k => Strand.within_image (hx k) (.inl rfl) fun _ _ => rfl
  | track w k => exact State.upd_all hx fun _ => Strand.within_idle rfl rfl
  | start _ w k p shadow v lim _ _ hst _ hlim _ =>
    rw [State.beginRun_eq k p shadow v hlim]
    exact State.upd_all hx fun _ => State.begun_within _ p shadow v (Strand.sound_idle (hs k) hst).2.1 hlim
  | release _ k => exact State.upd_all hx Strand.within_release
  | pin k o =>
    exact State.upd_all hx fun h => Strand.within_of h rfl rfl rfl rfl (fun _ => id) rfl rfl
  | warmReset => intro k; rw [State.warmReset_strand]; exact Strand.within_idle rfl rfl
  | powerOn => intro k; rw [State.powerOn_strand]; exact Strand.within_idle rfl rfl
  | endLoad n hload =>
    obtain ⟨hp, -⟩ := hl hload
    intro k
    rw [State.endLoad_strand]
    have hk : (s.strand k).ctx.state = .passive := (hp k).1
    have hr : (s.strand k).ctx.running = false := by simp [Context.running, hk]
    exact Strand.within_idle hr (by simp [Context.driving, Context.realRun, hr, hk])

/-- Settles O59: each effect keeps every strand within the tables, given the records of every strand and the load. -/
theorem speedsAndGrantsStayWithinLimits : Obligations.SpeedsAndGrantsStayWithinLimits := by
  intro s t hs hl hlim hsp hf h
  obtain ⟨rest, he⟩ := step_effects h
  have hx := (State.within_iff { s with pending := rest }).mpr ⟨hlim, hsp, hf⟩
  refine (State.within_iff t).mp (he.keeps
    (P := fun u => u.strandsSound ∧ u.loadSound ∧ ∀ k, (u.strand k).within u.working) ?_ ⟨hs, hl, hx⟩).2.2
  rintro u v he ⟨hs, hl, hx⟩
  exact ⟨he.strandsSound hs, he.loadSound hl, he.within hs hl hx⟩

end Sys2Proof.Machine

/-! A COMMAND hold on a strand that goes on running ends only by RELEASE (R19). -/

namespace Sys2Proof.Machine

/-- A strand that runs after a change ran before it, and holds COMMAND still if it did. -/
def Strand.keepsCommand (x y : Strand) : Prop :=
  y.ctx.running = true → x.ctx.running = true ∧ (x.ctx.hold.command = true → y.ctx.hold.command = true)

theorem Strand.keepsCommand.refl (x : Strand) : x.keepsCommand x := fun h => ⟨h, id⟩

theorem Strand.keepsCommand.trans {x y z : Strand} (h : x.keepsCommand y) (g : y.keepsCommand z) : x.keepsCommand z := fun hz =>
  have ⟨hy, g'⟩ := g hz
  have ⟨hx, h'⟩ := h hy
  ⟨hx, g' ∘ h'⟩

theorem Strand.keepsCommand_of_idle {x y : Strand} (h : y.ctx.running = false) : x.keepsCommand y := fun hy => by
  rw [h] at hy; cases hy

/-- The state of a run and the hold set stay. -/
theorem Strand.keepsCommand_of_same {x y : Strand} (hs : y.ctx.state = x.ctx.state) (hh : y.ctx.hold = x.ctx.hold) :
    x.keepsCommand y := fun hy => ⟨(Context.running_congr hs).symm.trans hy, by rw [hh]; exact id⟩

theorem HoldSet.command_put {h : HoldSet} {r : Reason} {b : Bool} (hb : r = .command → b = true) (hc : h.command = true) :
    (h.put r b).command = true := by
  cases r with
  | command => exact hb rfl
  | _ => exact hc

theorem Context.addReason_command (r : Reason) {c : Context} (h : c.hold.command = true) :
    (c.addReason r).hold.command = true := by
  unfold Context.addReason
  split
  · exact HoldSet.command_put (fun _ => rfl) h
  · exact h

theorem Context.removeReason_command {r : Reason} (hr : r ≠ .command) {c : Context} (h : c.hold.command = true) :
    (c.removeReason r).hold.command = true := by
  unfold Context.removeReason
  split
  · exact HoldSet.command_put (fun e => absurd e hr) h
  · exact h

/-- No move takes COMMAND out of a hold set, or begins a run (R16, R17, R19). -/
theorem Strand.Move.keepsCommand {i : Image} {x y : Strand} (h : Strand.Move i x y) : x.keepsCommand y := by
  cases h with
  | add r => exact fun hy => ⟨by simpa using hy, Context.addReason_command r⟩
  | remove hr => exact fun hy => ⟨by simpa using hy, Context.removeReason_command hr⟩
  | note c h hc => exact Strand.keepsCommand_of_same (by rw [hc]) (by rw [hc])
  | trip => exact Strand.keepsCommand_of_idle rfl
  | leave => exact Strand.keepsCommand_of_idle rfl
  | handback => exact Strand.keepsCommand_of_idle rfl
  | untrack => exact Strand.keepsCommand_of_idle rfl
  | silence => unfold Strand.countSilence; split <;> exact Strand.keepsCommand_of_same rfl rfl
  | _ => exact Strand.keepsCommand_of_same rfl rfl

theorem Strand.Moves.keepsCommand {i : Image} {x y : Strand} (h : Strand.Moves i x y) : x.keepsCommand y :=
  Strand.Moves.keeps (P := x.keepsCommand) (fun _ _ hm hx => hx.trans hm.keepsCommand) h (.refl x)

/-- One strand changes, and keeps COMMAND. -/
theorem State.upd_keepsCommand {s : State} {k : StrandId} {f : Strand → Strand}
    (h : (s.strand k).keepsCommand (f (s.strand k))) (j : StrandId) : (s.strand j).keepsCommand ((s.upd k f).strand j) := by
  rw [State.strand_upd]
  split
  · next hj => rw [hj]; exact h
  · exact .refl _

/-- No effect but START and RELEASE takes COMMAND out of a hold set, or begins a run. -/
theorem State.Effect.keepsCommand {runs : Prop} (hr : ¬ runs) {s t : State} (h : State.Effect runs s t) (k : StrandId) :
    (s.strand k).keepsCommand (t.strand k) := by
  cases h with
  | moves h => exact (h.strands k).keepsCommand
  | beatUnit _ _ _ _ hm => exact (hm k).keepsCommand
  | dip _ _ _ hm => exact (hm k).keepsCommand
  | store same => rw [State.strand_of_strands same k]; exact .refl _
  | map => exact .refl _
  | track w j => exact State.upd_keepsCommand (Strand.keepsCommand_of_idle rfl) k
  | start h => exact absurd h hr
  | release h => exact absurd h hr
  | pin j o => exact State.upd_keepsCommand (Strand.keepsCommand_of_same rfl rfl) k
  | warmReset => rw [State.warmReset_strand]; exact Strand.keepsCommand_of_idle rfl
  | powerOn => rw [State.powerOn_strand]; exact Strand.keepsCommand_of_idle rfl
  | endLoad n => rw [State.endLoad_strand]; exact .refl _

theorem State.Effects.keepsCommand {runs : Prop} (hr : ¬ runs) {s t : State} (h : State.Effects runs s t) (k : StrandId) :
    (s.strand k).keepsCommand (t.strand k) := by
  induction h with
  | refl => exact .refl _
  | tail _ he ih => exact ih.trans (he.keepsCommand hr k)

/-- START changes no strand that already runs (R9). -/
theorem execStart_running {q : ReqHead} {w p sh : Word} {s t : State} {k : StrandId} (h : exec (.start q w p sh) s = .next t)
    (hr : (s.ctx k).running = true) : t.strand k = s.strand k := by
  cases h
  rcases State.answer_cases s 3 q (State.strandRequest w (startBody p sh)) with
    ⟨-, e⟩ | ⟨-, -, e⟩ | ⟨-, -, ⟨r, -, e⟩ | ⟨t, d, hb, e⟩⟩ <;> rw [e]
  · rfl
  · rfl
  · obtain ⟨j, -, hj⟩ := State.strandRequest_ok hb
    obtain ⟨n, v, lim, hst, -, hlim, -, -, rfl⟩ := startBody_ok hj
    have hne : k ≠ j := by
      rintro rfl
      rcases hst with h | h <;> simp [Context.running, h] at hr
    rw [State.beginRun_eq j n _ v hlim, State.strand_reply, State.strand_upd_ne _ hne]

/-- Settles O10: START aside, which changes no running strand, a command outside the four rows left out neither begins a run nor
takes COMMAND out of a hold set. -/
theorem commandHoldLasts : Obligations.CommandHoldLasts := by
  intro c s t k hwf h hrel hunk hown hpass hrun hcmd hrun'
  by_cases hm : c.mayRun
  · cases c with
    | start q w p sh => rw [State.ctx, execStart_running h hrun]; exact hcmd
    | release q w => exact absurd rfl (hrel q w)
    | unknownRequest f => exact absurd rfl (hunk f)
    | ownFrameReturn f => exact absurd rfl (hown f)
    | passThroughFrame f => exact absurd rfl (hpass f)
    | badCheckFrame ws => simp [Instr.mayRun, Instr.wf] at hm hwf; exact absurd hwf hm
    | malformedFrame f => simp_all [Instr.mayRun, Instr.wf]
    | beatFrame f n => simp_all [Instr.mayRun, Instr.wf]
    | sensorSample f => simp_all [Instr.mayRun, Instr.wf]
    | plantSample f => simp_all [Instr.mayRun, Instr.wf]
    | masterActuatorFrame f => simp_all [Instr.mayRun, Instr.wf]
    | statusSlotFrame f => simp_all [Instr.mayRun, Instr.wf]
    | _ => exact hm.elim
  · exact ((State.Effects.keepsCommand hm (exec_effects h) k) hrun').2 hcmd

end Sys2Proof.Machine

/-! The strand requests, hold reasons, trips and resets (chapter 1). -/

namespace Sys2Proof.Machine

/-! ## Requests off the map -/

/-- A strand request whose word names no strand of the map is refused STATE (R6). -/
theorem State.answer_unnamed {s : State} {q : ReqHead} {w : Word} (code : Word) (ha : s.answers q) (hn : ∀ k, ¬ s.names w k)
    (body : StrandId → State → Answer) : s.answer code q (State.strandRequest w body) = s.reply code q .state [] :=
  State.answer_error ha (by unfold State.strandRequest; rw [State.strandOperand_refused hn])

/-- Settles O4: each of the nine rows asks for its strand operand first. -/
theorem strandRequestOffTheMapRefused : Obligations.StrandRequestOffTheMapRefused := by
  intro s q w p sh t ha hn
  have refused : ∀ (code : Word) (body : StrandId → State → Answer),
      (.next (s.answer code q (State.strandRequest w body)) : Outcome) = .next (s.reply code q .state []) :=
    fun code body => congrArg _ (State.answer_unnamed code ha hn body)
  exact ⟨refused _ _, refused _ _, refused _ _, refused _ _, refused _ _, refused _ _, refused _ _, refused _ _, refused _ _⟩

/-! ## Requests on a named strand -/

/-- A strand request on a strand it names, where the owning rule accepts it. -/
theorem State.answer_named {s t : State} {q : ReqHead} {w : Word} {k : StrandId} {d : List Word} (code : Word)
    {body : StrandId → State → Answer} (ha : s.answers q) (hn : s.names w k) (h : body k s = .ok (t, d)) :
    (.next (s.answer code q (State.strandRequest w body)) : Outcome) = .next (t.reply code q .ok d) :=
  congrArg _ (State.answer_ok ha ((State.strandRequest_names hn body).trans h))

/-- A strand request on a strand it names, where the owning rule refuses it. -/
theorem State.answer_refused {s : State} {q : ReqHead} {w : Word} {k : StrandId} {r : Result} (code : Word)
    {body : StrandId → State → Answer} (ha : s.answers q) (hn : s.names w k) (h : body k s = .error r) :
    (.next (s.answer code q (State.strandRequest w body)) : Outcome) = .next (s.reply code q r []) :=
  congrArg _ (State.answer_error ha ((State.strandRequest_names hn body).trans h))

/-- Settles O5: the accepted and the refused branch of each owning rule. -/
theorem trackAndUntrackMoveTheStrand : Obligations.TrackAndUntrackMoveTheStrand := by
  intro s q w k ha hn x
  exact ⟨fun h => State.answer_named 1 ha hn (if_pos h), fun h => State.answer_refused 1 ha hn (if_neg h),
    fun h => State.answer_named 2 ha hn (if_pos h), fun h => State.answer_refused 2 ha hn (if_neg h)⟩

/-! ## START -/

/-- A strand may start with seed v: from TRACKING by the observed speed, from PASSIVE by the VALID feedback (R10). -/
theorem Strand.seed_of {x : Strand} {v : Nat}
    (h : x.ctx.state = .tracking ∧ (∃ o, x.observed = some o ∧ o.speed = v)
      ∨ x.ctx.state = .passive ∧ x.input.fb.loss = .valid ∧ x.input.feedback = some v) : x.seed = some v := by
  unfold Strand.seed
  rcases h with ⟨hs, o, ho, rfl⟩ | ⟨hs, hf, hv⟩
  · simp [hs, ho]
  · simp [hs, hf, hv]

/-- What START accepts (R9, R10). -/
theorem startBody_accepts {s : State} {pw sh : Word} {k : StrandId} {p : ProfileId} {lim : Limits} {v : Nat}
    (hst : (s.ctx k).state = .passive ∨ (s.ctx k).state = .tracking) (hc : s.change = .clear) (hl : s.limits = some lim)
    (hp : s.validProfile pw = some p) (hd : s.plantIn.dip = false) (hb : (s.strand k).input.breakout = false)
    (hv : (s.strand k).seed = some v) : startBody pw sh k s = .ok (s.beginRun k p (sh ≠ 0) v lim, []) := by
  have hst' : ¬ ((s.strand k).ctx.state ≠ .passive ∧ (s.strand k).ctx.state ≠ .tracking) := fun h => hst.elim h.1 h.2
  unfold startBody
  dsimp only
  rw [if_neg hst', if_neg (by simp [hc])]
  simp [hl, hp, hd, hb, hv]

/-- Settles O6: START accepts the strand, and the run it begins is the one written out. -/
theorem startBeginsTheRun : Obligations.StartBeginsTheRun := by
  intro s q w pw sh k p lim v ha hn hc hl hpw hp hd hb hseed x a g table hold ctx
  have hst : (s.ctx k).state = .passive ∨ (s.ctx k).state = .tracking := hseed.elim (fun h => .inr h.1) fun h => .inl h.1
  refine (State.answer_named 3 ha hn (startBody_accepts hst hc hl (State.validProfile_eq_some.mpr ⟨hpw, hp⟩) hd hb
    (Strand.seed_of hseed))).trans ?_
  rw [State.beginRun_eq k p _ v hl]
  have branch : ∀ a b : Grant, (if decide (sh ≠ 0) = true then a else b) = if sh = 0 then b else a := fun a b => by
    by_cases h0 : sh = 0 <;> simp [h0]
  have e : s.begun x p (sh ≠ 0) v lim = { x with
      ctx, observed := if x.ctx.state = .passive then none else x.observed, claimDue := false, silence := 0
      originating := false, grant := if sh = 0 then s.grantFor a table else x.grant
      shadowGrant := if sh = 0 then x.shadowGrant else s.grantFor a table } := by
    unfold State.begun
    dsimp only
    rw [branch, branch]
    rfl
  exact congrArg (fun y => Host.Outcome.next ((s.withStrand k y).reply 3 q .ok [])) e

/-- Settles O7: the checks of START one after another. -/
theorem startRefusalsInOrder : Obligations.StartRefusalsInOrder := by
  intro s q w pw sh k ha hn x refused startable
  have refuse : ∀ {r}, startBody pw sh k s = .error r → refused r := fun h => State.answer_refused 3 ha hn h
  have hst : startable → ¬ (x.ctx.state ≠ .passive ∧ x.ctx.state ≠ .tracking) := fun h h' => h.elim h'.1 h'.2
  refine ⟨fun h => refuse ?_, fun h hc => refuse ?_, fun h hc hl => refuse ?_, fun h hc hl hp => refuse ?_,
    fun h hc hl hp hi => refuse ?_⟩
  · exact if_pos (not_or.mp h)
  · exact (if_neg (hst h)).trans (if_pos hc)
  · unfold startBody
    dsimp only
    rw [if_neg (hst h), if_neg (by simp [hc]), hl]
  · obtain ⟨lim, hlim⟩ := Option.ne_none_iff_exists'.mp hl
    have hnone : s.validProfile pw = none := by
      rw [Option.eq_none_iff_forall_ne_some]
      intro p he
      obtain ⟨h1, h2⟩ := State.validProfile_eq_some.mp he
      rw [hp p h1.symm] at h2; cases h2
    unfold startBody
    dsimp only
    rw [if_neg (hst h), if_neg (by simp [hc]), hlim]
    dsimp only
    rw [hnone]
  · obtain ⟨lim, hlim⟩ := Option.ne_none_iff_exists'.mp hl
    obtain ⟨p, hpw, hpv⟩ := hp
    unfold startBody
    dsimp only
    rw [if_neg (hst h), if_neg (by simp [hc]), hlim]
    dsimp only
    rw [State.validProfile_eq_some.mpr ⟨hpw.symm, hpv⟩]
    dsimp only
    rcases hi with hi | hi | ⟨h1, h2⟩ | ⟨h1, h2⟩
    · rw [if_pos hi]
    · rw [if_pos (show (s.strand k).input.breakout = true from hi), ite_self]
    · have hseed : (s.strand k).seed = none := by
        unfold Strand.seed; rw [show (s.strand k).ctx.state = _ from h1, show (s.strand k).observed = _ from h2]; rfl
      simp [hseed]
    · have hseed : (s.strand k).seed = none := by
        unfold Strand.seed; rw [show (s.strand k).ctx.state = _ from h1]; exact if_neg h2
      simp [hseed]

/-! ## Hold reasons -/

theorem HoldSet.isEmpty_put {h : HoldSet} {r : Reason} : (h.put r false).isEmpty = true ↔ ∀ r', r' ≠ r → h.has r' = false := by
  rw [HoldSet.isEmpty_iff]
  refine forall_congr' fun r' => ?_
  rw [HoldSet.has_put]
  split <;> simp [*]

/-- Settles O8: outside HOLDING nothing, and in HOLDING the reason leaves the set and the set decides the state. -/
theorem holdReasonRemoval : Obligations.HoldReasonRemoval := by
  intro c r
  refine ⟨fun h => if_neg h, fun h => ?_⟩
  have e : c.removeReason r = { c with
      hold := c.hold.put r false, state := if (c.hold.put r false).isEmpty then .ramping else .holding } := if_pos h
  rw [e]
  refine ⟨by simp [HoldSet.has_put], fun r' hr => by simp [HoldSet.has_put, hr], fun hall => ?_, fun ⟨r', hr, hh⟩ => ?_, rfl⟩
  · exact if_pos (HoldSet.isEmpty_put.mpr hall)
  · refine if_neg fun he => ?_
    rw [HoldSet.isEmpty_put.mp he r' hr] at hh; cases hh

/-- A change that leaves the strand's records as they are. -/
theorem State.upd_self {s : State} {k : StrandId} {f : Strand → Strand} (h : f (s.strand k) = s.strand k) : s.upd k f = s :=
  State.ext_strands rfl fun j => by
    rw [State.strand_upd]
    split
    · next hj => rw [hj]; exact h
    · rfl

/-- HOLD and RELEASE on a strand they name, by whether it runs (R19, R20). -/
theorem holdAndRelease_answered {s : State} {q : ReqHead} {w : Word} {k : StrandId} (ha : s.answers q) (hn : s.names w k) :
    let x := s.strand k
    let left := { x.ctx.hold with command := false }
    (x.ctx.running = true →
      exec (.hold q w) s = .next ((s.withStrand k { x with
        ctx := { x.ctx with state := .holding, hold := { x.ctx.hold with command := true } } }).reply 4 q .ok []))
    ∧ (x.ctx.running = false → exec (.hold q w) s = .next (s.reply 4 q .state []))
    ∧ (x.ctx.state = .ramping → exec (.release q w) s = .next (s.reply 5 q .ok []))
    ∧ (x.ctx.state = .holding →
      exec (.release q w) s = .next ((s.withStrand k { x with
        ctx := { x.ctx with state := if left = {} then .ramping else .holding, hold := left } }).reply 5 q .ok []))
    ∧ (x.ctx.running = false → exec (.release q w) s = .next (s.reply 5 q .state [])) := by
  intro x left
  refine ⟨fun h => ?_, fun h => ?_, fun h => ?_, fun h => ?_, fun h => ?_⟩
  · refine (State.answer_named 4 ha hn (if_pos h)).trans ?_
    have e : x.ctx.addReason .command = { x.ctx with hold := x.ctx.hold.put .command true, state := .holding } := if_pos h
    exact congrArg (fun c => Host.Outcome.next ((s.withStrand k { x with ctx := c }).reply 4 q .ok [])) e
  · exact State.answer_refused 4 ha hn (if_neg (by rw [show (s.ctx k).running = false from h]; simp))
  · refine (State.answer_named 5 ha hn (if_pos ((Context.running_iff _).mpr (.inl h)))).trans ?_
    have e : s.updCtx k (Context.removeReason .command) = s :=
      State.upd_self (by rw [Context.removeReason, if_neg (by rw [show (s.strand k).ctx.state = _ from h]; simp)])
    rw [e]
  · refine (State.answer_named 5 ha hn (if_pos ((Context.running_iff _).mpr (.inr h)))).trans ?_
    have e : x.ctx.removeReason .command = { x.ctx with
        hold := x.ctx.hold.put .command false
        state := if (x.ctx.hold.put .command false).isEmpty then .ramping else .holding } := if_pos h
    have e' : x.ctx.removeReason .command = { x.ctx with hold := left, state := if left = {} then .ramping else .holding } := by
      rw [e]
      simp only [HoldSet.isEmpty, decide_eq_true_eq]
      rfl
    exact congrArg (fun c => Host.Outcome.next ((s.withStrand k { x with ctx := c }).reply 5 q .ok [])) e'
  · exact State.answer_refused 5 ha hn (if_neg (by rw [show (s.ctx k).running = false from h]; simp))

/-- Settles O9: both requests by whether the strand runs, and the arrival of a reason by its definition. -/
theorem holdAndReleaseMoveCommand : Obligations.HoldAndReleaseMoveCommand := by
  refine ⟨fun s q w k ha hn => ?_, fun c r => ⟨fun h => Context.addReason_idle r h, fun h => ?_⟩⟩
  · exact holdAndRelease_answered ha hn
  · have e : c.addReason r = { c with hold := c.hold.put r true, state := .holding } := if_pos h
    rw [e]
    exact ⟨by simp [HoldSet.has_put], fun r' hr => by simp [HoldSet.has_put, hr], rfl⟩

end Sys2Proof.Machine

namespace Sys2Proof.Machine

/-! ## CLEAR_TRIP and READ_CONTEXT -/

/-- The eleven context words, by the presence of each field (R27). -/
theorem Strand.contextWords_eq (x : Strand) : x.contextWords =
    [word x.ctx.state.code, if x.ctx.shadow then 1 else 0,
      match x.ctx.profile with | some p => word p.val | none => 255,
      match x.ctx.segment with | some (.seg n) => word n.val | some .atEnd => 8 | none => 255,
      match x.ctx.state with
        | .ramping | .holding => word (x.ctx.acc / 64)
        | .handback | .tripped => word x.grant.speed
        | .passive | .tracking => 0,
      match x.ctx.target with | some v => word v | none => 0,
      word (bit x.ctx.hold.level + 2 * bit x.ctx.hold.sensor + 4 * bit x.ctx.hold.beat + 8 * bit x.ctx.hold.command
        + 16 * bit x.ctx.hold.change + 32 * bit x.ctx.hold.dip),
      if x.ctx.starved then 1 else 0,
      match x.ctx.cause with
        | none => 0 | some .breakout => 1 | some .level => 2 | some .follow => 3 | some .changeLate => 4
        | some .swapTimeout => 5 | some .dipLong => 6,
      if x.ctx.enrolled then 1 else 0,
      if x.ctx.shadow then word x.shadowGrant.demand else word x.grant.demand] := by
  have flag : ∀ b : Bool, word (bit b) = if b then 1 else 0 := by decide
  have speed : word x.outputSpeed = (match x.ctx.state with
      | .ramping | .holding => word (x.ctx.acc / 64)
      | .handback | .tripped => word x.grant.speed
      | .passive | .tracking => 0) := by
    unfold Strand.outputSpeed; cases x.ctx.state <;> rfl
  have profile : word ((x.ctx.profile.map fun p => p.val).getD 255)
      = (match x.ctx.profile with | some p => word p.val | none => 255) := by cases x.ctx.profile <;> rfl
  have segment : word (segIndexCode x.ctx.segment)
      = (match x.ctx.segment with | some (.seg n) => word n.val | some .atEnd => 8 | none => 255) := by
    rcases x.ctx.segment with _ | _ | _ <;> rfl
  have target : word (x.ctx.target.getD 0) = (match x.ctx.target with | some v => word v | none => 0) := by
    cases x.ctx.target <;> rfl
  have cause : word ((x.ctx.cause.map Cause.code).getD 0) = (match x.ctx.cause with
      | none => 0 | some .breakout => 1 | some .level => 2 | some .follow => 3 | some .changeLate => 4
      | some .swapTimeout => 5 | some .dipLong => 6) := by
    rcases x.ctx.cause with _ | _ | _ | _ | _ | _ | _ <;> rfl
  have demand : word x.reportedDemand = if x.ctx.shadow then word x.shadowGrant.demand else word x.grant.demand := by
    unfold Strand.reportedDemand; split <;> rfl
  unfold Strand.contextWords
  rw [flag, flag, flag, speed, profile, segment, target, cause, demand]
  rfl

/-- Settles O11: CLEAR_TRIP by the strand's state, and the words of READ_CONTEXT. -/
theorem clearTripAndReadContext : Obligations.ClearTripAndReadContext := by
  intro s q w k ha hn x
  refine ⟨fun h => State.answer_named 6 ha hn (if_pos h), fun h => State.answer_refused 6 ha hn (if_neg h), ?_⟩
  refine (State.answer_named 7 (body := readContextBody) ha hn rfl).trans ?_
  exact congrArg (fun ws => Host.Outcome.next (s.reply 7 q .ok ws)) (Strand.contextWords_eq x)

/-! ## Trips -/

/-- Trip entry of a non-shadow run or a strand in HANDBACK (R22). -/
theorem State.tripOne_entered {s : State} {k : StrandId} (why : Cause)
    (h : (s.ctx k).realRun = true ∨ (s.ctx k).state = .handback) :
    s.tripOne why k = ((s.upd k (Strand.enterTripped why s.tripGrant)).count fun c =>
      { c with trips := c.trips.set k (satInc c.trips[k]) }).raise .trip (some k) why.code := if_pos h

/-- The would-be trip of a shadow run (R24). -/
theorem State.tripOne_wouldBe {s : State} {k : StrandId} (why : Cause) (h : (s.ctx k).shadowRun = true) :
    s.tripOne why k = (s.upd k Strand.enterTracking).raise .shadowTrip (some k) why.code := by
  obtain ⟨hr, hsh⟩ := (Context.shadowRun_iff _).mp h
  have hn : ¬ ((s.ctx k).realRun = true ∨ (s.ctx k).state = .handback) := by
    rintro (h' | h')
    · rw [((Context.realRun_iff _).mp h').2] at hsh; cases hsh
    · simp [Context.running, h'] at hr
  exact (if_neg hn).trans (if_pos h)

/-- A trip cause does not reach a strand that neither runs nor hands back (R23). -/
theorem State.tripOne_idle {s : State} {k : StrandId} (why : Cause) (hr : (s.ctx k).running = false)
    (hh : (s.ctx k).state ≠ .handback) : s.tripOne why k = s := by
  have hn : ¬ ((s.ctx k).realRun = true ∨ (s.ctx k).state = .handback) := by
    rintro (h | h)
    · rw [((Context.realRun_iff _).mp h).1] at hr; cases hr
    · exact hh h
  have hs : ¬ (s.ctx k).shadowRun = true := fun h => by rw [((Context.shadowRun_iff _).mp h).1] at hr; cases hr
  exact (if_neg hn).trans (if_neg hs)

/-- Settles O12: trip entry, the would-be trip, and the states that no cause reaches. -/
theorem tripEntryByState : Obligations.TripEntryByState := by
  intro s k why x code flows
  have hcode : why.code = code := by cases why <;> rfl
  refine ⟨fun h => ?_, fun h => ?_, fun h => ?_⟩
  · rw [State.tripOne_entered why h, hcode]
    rfl
  · rw [State.tripOne_wouldBe why h, hcode]
    rfl
  · have hs : (s.ctx k).state = .passive ∨ (s.ctx k).state = .tracking ∨ (s.ctx k).state = .tripped := h
    refine State.tripOne_idle why ?_ ?_ <;> rcases hs with h | h | h <;> simp [Context.running, h]

/-! ## The resets and the end of the load -/

/-- A warm reset changes every strand at once. -/
theorem State.warmReset_eq (s : State) : s.warmReset =
    { s.mapStrands (fun _ => Strand.warm) with
      retired := none, plantIn := {}, pointer := 0, budget := 0, deficit := 0, change := .clear, loweringCount := 0
      swapCount := 0, dip := .normal, dipCount := 0, switchTo := none, fail := false, latchOpen := false, alarms := []
      counters := {}, watch := none } := by
  unfold State.warmReset
  rw [forStrands_upd_all]

/-- Settles O50: the warm reset written out, alone and after the reply to PART_RESET. -/
theorem warmResetValues : Obligations.WarmResetValues := by
  intro s q warm
  refine ⟨congrArg Host.Outcome.next (State.warmReset_eq s), fun ha => ?_⟩
  have answered : execPartReset q s = .next (s.reply 22 q .ok []).warmReset :=
    congrArg Host.Outcome.next ((if_neg (by simp [ha.1])).trans (if_neg (by simp [ha.2])))
  exact answered.trans (congrArg Host.Outcome.next (State.warmReset_eq _))

/-- Settles O51: the power-on reset keeps the stored areas, and the end of the load builds the image from them. -/
theorem powerOnAndStartUpLoad : Obligations.PowerOnAndStartUpLoad := by
  intro s t
  refine ⟨rfl, fun hl => ?_⟩
  exact congrArg Host.Outcome.next (if_pos hl)

/-! ## The state after reset -/

/-- The default image is valid and in range (R31, R48, R162, R167). -/
theorem defaultImage_sound : defaultImage.sound := by
  have profile : ∀ p : ProfileId, defaultImage.profile p = defaultProfile := fun p => by simp [defaultImage, Image.profile]
  have plant : defaultPlant.sound := by unfold Plant.sound; decide
  have config : defaultConfig.sound := ⟨by decide, by decide, nofun, by decide, by decide, by decide, by decide⟩
  exact ⟨fun p => by rw [profile p]; rfl, nofun, plant, config, nofun, nofun⟩

/-- Settles O60: after reset every strand has its default records, nothing runs, and every image is the default one. -/
theorem resetMeetsTheInvariants : Obligations.ResetMeetsTheInvariants := by
  have strand : ∀ k, State.reset.strand k = {} := fun k => by simp [State.reset, State.strand]
  have ctx : ∀ k, State.reset.ctx k = {} := fun k => by rw [State.ctx, strand]
  have idle : ∀ k, ¬ (State.reset.ctx k).running = true := fun k => by rw [ctx]; simp [Context.running]
  have within : ∀ k, (State.reset.strand k).within State.reset.working := fun k => by
    rw [strand]; exact Strand.within_idle rfl rfl
  refine ⟨by simp [State.alarmsSound, State.reset], ?_, ?_, ?_, ?_, ⟨nofun, nofun⟩, ?_, nofun, ?_, ?_, ?_, ?_,
    (State.within_iff _).mp within⟩
  · unfold Counters.sound; decide
  · exact fun k => by rw [strand]; exact Strand.sound_default false
  · exact ⟨fun _ => (State.anyEnrolled_eq_false _).mpr fun k => by rw [strand], fun _ => rfl⟩
  · exact ⟨by simp [State.reset], fun _ => rfl⟩
  · exact fun _ => ⟨fun k => by rw [ctx, strand]; exact ⟨rfl, rfl⟩, rfl, rfl, rfl, rfl, rfl, rfl⟩
  · exact fun k h => by rw [ctx] at h; exact absurd rfl h
  · exact fun k h => absurd h (idle k)
  · exact ⟨defaultImage_sound, nofun, nofun, nofun, nofun, fun k t h => by rw [strand] at h; cases h⟩
  · exact fun k p h => absurd h (idle k)

end Sys2Proof.Machine

/-! SENSOR_SAMPLE (R74, R75, R78 to R80, R89). -/

namespace Sys2Proof.Machine

/-! ## The record after a fresh sample -/

/-- A fresh sample at one input: it clears or counts (R75, R79). -/
theorem Input.sample_eq (n : Nat) (varied : Bool) (i : Input) : i.sample n varied =
    if (i.loss ≠ .valid ∧ n ≤ min 255 (i.clearRun + 1)) ∧ varied = true then { loss := .valid, since := 0, clearRun := 0 }
    else { i with since := 0, clearRun := if i.loss = .valid then i.clearRun else min 255 (i.clearRun + 1) } := by
  unfold Input.sample
  by_cases hv : i.loss = .valid
  · simp [hv]
  · simp [hv]

/-- The record that a fresh sample leaves at a VALID level input (R75, R78). -/
theorem StrandInput.take_valid {pl : Plant} {x : SensorReading} {r : StrandInput} (h : r.lvl.loss = .valid) :
    r.take pl x = { r with
      level := some x.level, feedback := some x.feedback, breakout := x.breakout, seq := some x.seq
      identical := r.identicalAfter x.level, fb := r.fb.sample pl.clearCount true
      lvl := if pl.frozenCount ≤ r.identicalAfter x.level then { loss := .loss .frozen, since := 0, clearRun := 0 }
        else { r.lvl with since := 0 }
      varied := if pl.frozenCount ≤ r.identicalAfter x.level then false else r.varied } := by
  unfold StrandInput.take
  dsimp only
  rw [if_pos h]
  split <;> rfl

/-- The record that a fresh sample leaves at a level input in LOSS or NODATA (R75, R79). -/
theorem StrandInput.take_lost {pl : Plant} {x : SensorReading} {r : StrandInput} (h : r.lvl.loss ≠ .valid) :
    r.take pl x = { r with
      level := some x.level, feedback := some x.feedback, breakout := x.breakout, seq := some x.seq
      identical := r.identicalAfter x.level, fb := r.fb.sample pl.clearCount true
      lvl := r.lvl.sample pl.clearCount (r.variedAfter x.level)
      varied := if pl.clearCount ≤ min 255 (r.lvl.clearRun + 1) then false else r.variedAfter x.level } := by
  have hv : (if (r.lvl.sample pl.clearCount (r.variedAfter x.level)).loss = .valid then false else r.variedAfter x.level)
      = if pl.clearCount ≤ min 255 (r.lvl.clearRun + 1) then false else r.variedAfter x.level := by
    rw [Input.sample_eq]
    cases r.variedAfter x.level <;> by_cases hc : pl.clearCount ≤ min 255 (r.lvl.clearRun + 1) <;> simp [h, hc]
  unfold StrandInput.take
  dsimp only
  rw [if_neg h, hv]

/-- The record that a fresh sample leaves (R75, R78, R79). -/
theorem StrandInput.take_eq (pl : Plant) (x : SensorReading) (r : StrandInput) :
    let frozen := r.lvl.loss = .valid ∧ pl.frozenCount ≤ r.identicalAfter x.level
    let clears := fun i : Input => i.loss ≠ .valid ∧ pl.clearCount ≤ min 255 (i.clearRun + 1)
    let clear : Input := { loss := .valid, since := 0, clearRun := 0 }
    let counted := fun i : Input =>
      { i with since := 0, clearRun := if i.loss = .valid then i.clearRun else min 255 (i.clearRun + 1) }
    r.take pl x =
      { level := some x.level, feedback := some x.feedback, breakout := x.breakout, seq := some x.seq
        identical := r.identicalAfter x.level
        lvl := if frozen then { loss := .loss .frozen, since := 0, clearRun := 0 }
          else if clears r.lvl ∧ r.variedAfter x.level = true then clear else counted r.lvl
        fb := if clears r.fb then clear else counted r.fb
        varied := if frozen ∨ clears r.lvl then false else if r.lvl.loss = .valid then r.varied else r.variedAfter x.level } := by
  dsimp only
  have hfb : r.fb.sample pl.clearCount true = _ := Input.sample_eq pl.clearCount true r.fb
  simp only [and_true] at hfb
  by_cases hv : r.lvl.loss = .valid
  · rw [StrandInput.take_valid hv, hfb]
    simp [hv]
  · rw [StrandInput.take_lost hv, hfb, Input.sample_eq]
    simp [hv]

/-- The level input leaves VALID at a fresh sample exactly when it freezes (R78). -/
theorem StrandInput.take_freezes (pl : Plant) (x : SensorReading) (r : StrandInput) :
    (r.lvl.loss = .valid ∧ (r.take pl x).lvl.loss ≠ .valid)
      ↔ r.lvl.loss = .valid ∧ pl.frozenCount ≤ r.identicalAfter x.level := by
  refine and_congr_right fun h => ?_
  rw [StrandInput.take_valid h]
  by_cases hf : pl.frozenCount ≤ r.identicalAfter x.level <;> simp [hf, h]

/-! ## What a sample leaves alone -/

/-- From s to t only strand k, the coordinator's state, alarms and counters change, and the input record of k stays. -/
structure State.onlyAt (k : StrandId) (s t : State) : Prop where
  frame : t = { s with strands := t.strands, change := t.change, alarms := t.alarms, counters := t.counters }
  others : ∀ j, j ≠ k → t.strand j = s.strand j
  input : (t.strand k).input = (s.strand k).input

section
variable {k : StrandId} {s t u : State}

theorem State.onlyAt.refl : State.onlyAt k s s := ⟨rfl, fun _ _ => rfl, rfl⟩

theorem State.onlyAt.trans (h : State.onlyAt k s t) (g : State.onlyAt k t u) : State.onlyAt k s u :=
  ⟨by rw [g.frame, h.frame], fun j hj => (g.others j hj).trans (h.others j hj), g.input.trans h.input⟩

theorem State.onlyAt_of_near (h : s.near t) (ho : ∀ j, j ≠ k → t.strand j = s.strand j)
    (hi : (t.strand k).input = (s.strand k).input) : State.onlyAt k s t :=
  ⟨by unfold State.near at h; rw [h], ho, hi⟩

theorem State.updCtx_onlyAt (f : Context → Context) : State.onlyAt k s (s.updCtx k f) :=
  ⟨rfl, fun j hj => by simp [State.updCtx, hj], by simp [State.updCtx]⟩

theorem State.raise_onlyAt (a : AlarmKind) (o : Option StrandId) (d : Nat) : State.onlyAt k s (s.raise a o d) :=
  State.onlyAt_of_near (State.near_raise s a o d) (fun j _ => State.strand_raise s a o d j) (by rw [State.strand_raise])

theorem Strand.afterTrip_input (why : Cause) (g : Grant) (x : Strand) : (x.afterTrip why g).input = x.input := by
  unfold Strand.afterTrip
  split
  · rfl
  · split <;> rfl

theorem State.tripAll_onlyAt (why : Cause) : State.onlyAt k s (s.tripAll why [k]) := by
  obtain ⟨hn, hs⟩ := State.tripOne_near why k s
  have trip : State.onlyAt k s (s.tripOne why k) :=
    State.onlyAt_of_near hn (fun j hj => by rw [hs j, if_neg hj]) (by rw [hs k, if_pos rfl, Strand.afterTrip_input])
  refine trip.trans ?_
  change State.onlyAt k _ (s.tripOne why k).settleChange
  unfold State.settleChange
  split
  · have hc : State.onlyAt k (s.tripOne why k) { s.tripOne why k with change := .clear } := ⟨rfl, fun _ _ => rfl, rfl⟩
    exact hc.trans (State.raise_onlyAt _ _ _)
  · exact .refl

theorem State.takeBreakout_onlyAt (before flag : Bool) : State.onlyAt k s (s.takeBreakout k before flag) := by
  unfold State.takeBreakout
  split
  · split
    · exact State.tripAll_onlyAt _
    · exact State.tripAll_onlyAt _
    · exact State.tripAll_onlyAt _
    · split
      · exact .refl
      · exact State.raise_onlyAt _ _ _
    · exact .refl
    · exact .refl
  · exact .refl

theorem State.takeConfirm_onlyAt (flag : Bool) : State.onlyAt k s (s.takeConfirm k flag) := by
  unfold State.takeConfirm
  split
  · split
    · exact State.updCtx_onlyAt _
    · exact .refl
  · exact .refl

theorem State.levelGate_onlyAt (level : Int) : State.onlyAt k s (s.levelGate k level) := by
  unfold State.levelGate
  split
  · dsimp only
    split
    · exact (State.updCtx_onlyAt _).trans (State.tripAll_onlyAt _)
    · exact State.updCtx_onlyAt _
  · exact .refl

end

/-! ## Alarms and records -/

/-- An alarm and a change of a strand's records do not meet. -/
theorem State.upd_raise (s : State) (k : StrandId) (f : Strand → Strand) (a : AlarmKind) (o : Option StrandId) (d : Nat) :
    (s.raise a o d).upd k f = (s.upd k f).raise a o d := by
  unfold State.raise
  rw [show (s.upd k f).alarms = s.alarms from rfl]
  split <;> rfl

theorem State.upd_noteLoss (s : State) (k : StrandId) (f : Strand → Strand) (before after : StrandInput) :
    (s.noteLoss k before after).upd k f = (s.upd k f).noteLoss k before after := by
  unfold State.noteLoss
  dsimp only
  split <;> split <;> simp only [State.upd_raise]

theorem State.noteLoss_near (s : State) (k : StrandId) (before after : StrandInput) : s.near (s.noteLoss k before after) := by
  have one : ∀ u : State, s.near u → s.near (match before.fb.loss, after.fb.loss with
      | .loss _, .valid => u.raise .lossClear (some k) 1
      | _, _ => u) := by
    intro u hu
    split
    · exact State.near_trans hu (State.near_raise _ _ _ _)
    · exact hu
  unfold State.noteLoss
  dsimp only
  refine one _ ?_
  split
  · exact State.near_raise _ _ _ _
  · exact State.near_raise _ _ _ _
  · exact State.near_refl s

/-! ## A fresh sample -/

/-- The part with the record of a fresh sample and its alarms, strand k in context c. -/
def State.taken (s : State) (k : StrandId) (after : StrandInput) (c : Context) : State :=
  State.noteLoss k (s.strand k).input after (s.withStrand k { s.strand k with input := after, ctx := c })

theorem State.strand_withStrand (s : State) (k j : StrandId) (x : Strand) :
    (s.withStrand k x).strand j = if j = k then x else s.strand j := State.strand_upd s k j fun _ => x

theorem State.taken_strand (s : State) (k j : StrandId) (after : StrandInput) (c : Context) :
    (s.taken k after c).strand j = if j = k then { s.strand k with input := after, ctx := c } else s.strand j := by
  rw [State.taken, State.noteLoss_strand, State.strand_withStrand]

theorem State.taken_ctx (s : State) (k : StrandId) (after : StrandInput) (c : Context) : (s.taken k after c).ctx k = c := by
  rw [State.ctx, State.taken_strand, if_pos rfl]

theorem State.taken_near (s : State) (k : StrandId) (after : StrandInput) (c : Context) : s.near (s.taken k after c) :=
  State.near_trans (State.near_upd s k fun _ => _) (State.noteLoss_near _ _ _ _)

/-- The record of a fresh sample, with its alarms (R78 to R80). -/
theorem State.setInput_taken (s : State) (k : StrandId) (x : SensorReading) :
    s.setInput k ((s.strand k).input.take s.plant x) = s.taken k ((s.strand k).input.take s.plant x) (s.ctx k) :=
  State.setInput_take s k x

theorem State.taken_updCtx (s : State) (k : StrandId) (after : StrandInput) (c : Context) (f : Context → Context) :
    (s.taken k after c).updCtx k f = s.taken k after (f c) := by
  unfold State.taken State.updCtx
  rw [State.upd_noteLoss]
  congr 1
  unfold State.withStrand
  rw [State.upd]
  simp [State.strand]

/-- The context of a strand that runs no profile after a fresh sample that is no trip (R86). -/
def Context.sampled (before after : StrandInput) (c : Context) : Context :=
  if before.lvl.loss = .valid ∧ after.lvl.loss ≠ .valid then { c with levelExcess := 0 } else c

theorem Context.sampled_running (before after : StrandInput) (c : Context) :
    (c.sampled before after).running = c.running := by
  unfold Context.sampled
  split <;> rfl

theorem Context.sampled_of_excess {before after : StrandInput} {c : Context} (h : c.levelExcess = 0) :
    c.sampled before after = c := by
  unfold Context.sampled
  rw [← h, ite_self]

/-- A change of the input record brings no SENSOR to a strand that runs no profile (R17, R84, R86). -/
theorem Context.sensorChange_idle (before after : StrandInput) {c : Context} (h : c.running = false) :
    Context.sensorChange before after c = c.sampled before after := by
  have hq : (c.sampled before after).running = false := (c.sampled_running before after).trans h
  change (if _ then (c.sampled before after).addReason .sensor
    else if _ then (c.sampled before after).removeReason .sensor else c.sampled before after) = _
  rw [Context.addReason_idle _ hq, Context.removeReason_idle _ hq, ite_self, ite_self]

/-- The rest of a fresh sample at a strand that runs no profile: a frozen level input zeroes the level excess count (R84 to
R87). -/
theorem State.sampleRest_idle {s : State} {k : StrandId} (before after : StrandInput) (confirm : Bool) (level : Int)
    (h : (s.ctx k).running = false) :
    ((s.updCtx k (Context.sensorChange before after)).takeConfirm k confirm).levelGate k level
      = s.updCtx k (Context.sampled before after) := by
  have hs : s.updCtx k (Context.sensorChange before after) = s.updCtx k (Context.sampled before after) :=
    State.upd_congr (congrArg (fun c => { s.strand k with ctx := c }) (Context.sensorChange_idle before after h))
  rw [hs]
  generalize hu : s.updCtx k (Context.sampled before after) = u
  have hr : (u.ctx k).running = false := by
    rw [← hu, State.ctx_updCtx, if_pos rfl, Context.sampled_running]
    exact h
  have hc : u.takeConfirm k confirm = u := by
    unfold State.takeConfirm
    split
    · exact if_neg (by simp [hr])
    · rfl
  rw [hc]
  exact if_neg (by simp [hr])

/-- A trip cause at one strand, with the end of an emptied change (R92, R102). -/
theorem State.tripAll_one (why : Cause) (k : StrandId) (s : State) : s.tripAll why [k] = (s.tripOne why k).settled :=
  State.tripAll_eq_settled why [k] s

theorem State.settled_strand (s : State) (k : StrandId) : s.settled.strand k = s.strand k := by
  unfold State.settled
  split
  · exact State.strand_raise { s with change := .clear } _ _ _ k
  · rfl

/-- A strand that runs or hands back does neither after a trip cause, and its level excess count is 0 (R2, R22, R24). -/
theorem Strand.afterTrip_idle {x : Strand} (why : Cause) (g : Grant)
    (h : x.ctx.running = true ∨ x.ctx.state = .handback) :
    (x.afterTrip why g).ctx.running = false ∧ (x.afterTrip why g).ctx.levelExcess = 0 := by
  unfold Strand.afterTrip
  split
  · exact ⟨rfl, rfl⟩
  · next hn =>
    rw [not_or] at hn
    have hr := h.resolve_right hn.2
    rw [if_pos]
    · exact ⟨rfl, rfl⟩
    · refine (Context.shadowRun_iff _).mpr ⟨hr, ?_⟩
      by_contra hs
      exact hn.1 ((Context.realRun_iff _).mpr ⟨hr, by simpa using hs⟩)

section
variable {s : State} {k : StrandId} {x : SensorReading}

/-- A fresh sample with breakout at a strand that runs or hands back: the trip cause and nothing more (R89). -/
theorem State.takeFreshSensor_breakout (h : (s.ctx k).running = true ∨ (s.ctx k).state = .handback)
    (hb : x.breakout = true) :
    s.takeFreshSensor k x = ((s.taken k ((s.strand k).input.take s.plant x) (s.ctx k)).tripOne .breakout k).settled := by
  unfold State.takeFreshSensor
  dsimp only
  rw [State.setInput_taken, hb]
  generalize hafter : (s.strand k).input.take s.plant x = after
  have hctx := State.taken_ctx s k after (s.ctx k)
  have htrip : (s.taken k after (s.ctx k)).takeBreakout k (s.strand k).input.breakout true
      = ((s.taken k after (s.ctx k)).tripOne .breakout k).settled := by
    rw [← State.tripAll_one]
    unfold State.takeBreakout
    rw [if_pos rfl, hctx]
    rcases h with h | h
    · rcases (Context.running_iff _).mp h with h | h <;> rw [h]
    · rw [h]
  rw [htrip]
  have hstr : ((s.taken k after (s.ctx k)).tripOne .breakout k).settled.strand k
      = ((s.taken k after (s.ctx k)).strand k).afterTrip .breakout (s.taken k after (s.ctx k)).tripGrant := by
    rw [State.settled_strand, (State.tripOne_near _ _ _).2 k, if_pos rfl]
  obtain ⟨h1, h2⟩ := Strand.afterTrip_idle (x := (s.taken k after (s.ctx k)).strand k) .breakout
    (s.taken k after (s.ctx k)).tripGrant (by rw [show ((s.taken k after (s.ctx k)).strand k).ctx = _ from hctx]; exact h)
  rw [← hstr] at h1 h2
  rw [State.sampleRest_idle _ _ _ _ h1]
  refine State.upd_self ?_
  rw [show ∀ y : Strand, y.ctx.levelExcess = 0 → { y with ctx := y.ctx.sampled (s.strand k).input after } = y from
    fun y hy => by rw [Context.sampled_of_excess hy]]
  exact h2

/-- A fresh sample that brings no trip to a strand that runs no profile: the record, and BREAKOUT_SEEN at the rising edge in
TRACKING (R86, R89). -/
theorem State.takeFreshSensor_idle (h : (s.ctx k).running = false) (hb : (s.ctx k).state = .handback → x.breakout = false) :
    let after := (s.strand k).input.take s.plant x
    let t := s.taken k after ((s.ctx k).sampled (s.strand k).input after)
    s.takeFreshSensor k x
      = if (s.ctx k).state = .tracking ∧ x.breakout = true ∧ (s.strand k).input.breakout = false then
          t.raise .breakoutSeen (some k) 0
        else t := by
  dsimp only
  unfold State.takeFreshSensor
  dsimp only
  rw [State.setInput_taken]
  generalize hafter : (s.strand k).input.take s.plant x = after
  have hctx := State.taken_ctx s k after (s.ctx k)
  have hbreak : (s.taken k after (s.ctx k)).takeBreakout k (s.strand k).input.breakout x.breakout
      = if (s.ctx k).state = .tracking ∧ x.breakout = true ∧ (s.strand k).input.breakout = false then
          (s.taken k after (s.ctx k)).raise .breakoutSeen (some k) 0
        else s.taken k after (s.ctx k) := by
    unfold State.takeBreakout
    rw [hctx]
    cases hx : x.breakout with
    | false => simp
    | true =>
      cases hst : (s.ctx k).state with
      | passive => simp
      | tracking => cases (s.strand k).input.breakout <;> simp
      | ramping => simp [Context.running, hst] at h
      | holding => simp [Context.running, hst] at h
      | handback => rw [hb hst] at hx; cases hx
      | tripped => simp
  rw [hbreak, State.sampleRest_idle]
  · split
    · rw [State.updCtx, State.upd_raise, ← State.updCtx, State.taken_updCtx]
    · rw [State.taken_updCtx]
  · split
    · rw [State.ctx, State.strand_raise]; rw [← State.ctx, hctx]; exact h
    · rw [hctx]; exact h

/-- A fresh sample leaves every other strand as it was, and nothing else but the coordinator's state, alarms and counters. -/
theorem State.takeFreshSensor_frame :
    s.takeFreshSensor k x = { s with
        strands := (s.takeFreshSensor k x).strands, change := (s.takeFreshSensor k x).change
        alarms := (s.takeFreshSensor k x).alarms, counters := (s.takeFreshSensor k x).counters }
      ∧ (∀ j, j ≠ k → (s.takeFreshSensor k x).strand j = s.strand j)
      ∧ ((s.takeFreshSensor k x).strand k).input = (s.strand k).input.take s.plant x := by
  have h : State.onlyAt k (s.taken k ((s.strand k).input.take s.plant x) (s.ctx k)) (s.takeFreshSensor k x) := by
    rw [← State.setInput_taken]
    exact (State.takeBreakout_onlyAt _ _).trans ((State.updCtx_onlyAt _).trans
      ((State.takeConfirm_onlyAt _).trans (State.levelGate_onlyAt _)))
  have hn := State.taken_near s k ((s.strand k).input.take s.plant x) (s.ctx k)
  refine ⟨?_, fun j hj => ?_, ?_⟩
  · rw [h.frame]
    unfold State.near at hn
    rw [hn]
  · rw [h.others j hj, State.taken_strand, if_neg hj]
  · rw [h.input, State.taken_strand, if_pos rfl]

/-- A breakout trips a strand that really runs or hands back (R22, R89). -/
theorem State.takeFreshSensor_tripped (h : (s.ctx k).realRun = true ∨ (s.ctx k).state = .handback) (hb : x.breakout = true) :
    let y := (s.takeFreshSensor k x).strand k
    y.ctx = { state := .tripped, cause := some .breakout } ∧ y.blend = none ∧ y.mark = none ∧ y.grant = s.tripGrant := by
  rw [State.takeFreshSensor_breakout (h.imp_left fun hr => ((Context.realRun_iff _).mp hr).1) hb, State.settled_strand,
    (State.tripOne_near _ _ _).2 k, if_pos rfl, State.tripGrant_near (State.taken_near _ _ _ _), State.taken_strand,
    if_pos rfl]
  unfold Strand.afterTrip
  rw [if_pos h]
  exact ⟨rfl, rfl, rfl, rfl⟩

end

/-! ## The sensor slot -/

section
variable {s : State} {f : Frame} {k : StrandId} {a b c d : Word}

theorem exec_sensorSample_quiet (hu : s.frameUse f = .slot (.sensor k)) (hp : f.payload = [a, b, c, d])
    (h : s.loading = true ∨ (s.strand k).input.seq = some d) : exec (.sensorSample f) s = .next (s.send f) := by
  change (.next _ : Outcome) = _
  rw [hu]
  unfold State.sensorFrame
  rw [hp]
  dsimp only
  split
  · rfl
  · next hl => exact congrArg Host.Outcome.next (if_pos (h.resolve_left hl))

theorem exec_sensorSample_fresh (hu : s.frameUse f = .slot (.sensor k)) (hp : f.payload = [a, b, c, d])
    (hl : s.loading = false) (hf : (s.strand k).input.seq ≠ some d) :
    exec (.sensorSample f) s = .next ((s.send f).takeFreshSensor k (readSensor a b c d)) := by
  change (.next _ : Outcome) = _
  rw [hu]
  unfold State.sensorFrame
  rw [hp]
  dsimp only
  rw [hl]
  exact congrArg Host.Outcome.next (if_neg hf)

end

/-- Settles O19: the record by the level input's loss state, then the parts of a fresh sample by the strand's state. -/
theorem sensorSampleTaken : Obligations.SensorSampleTaken := by
  unfold Obligations.SensorSampleTaken
  intro s f k a b c d hu hp x r read identical frozen varied clears clear counted after taken quiet
  have hafter : r.take s.plant read = after := StrandInput.take_eq s.plant read r
  have hquiet : quiet = x.ctx.sampled r after := by
    have h := StrandInput.take_freezes s.plant read r
    rw [hafter] at h
    exact if_congr h.symm rfl rfl
  refine ⟨exec_sensorSample_quiet hu hp, fun hl hf => ?_⟩
  have hexec : exec (.sensorSample f) s = .next ((s.send f).takeFreshSensor k read) :=
    exec_sensorSample_fresh hu hp hl hf
  have trips (h : x.ctx.running = true ∨ x.ctx.state = .handback) (hb : read.breakout = true) :
      (s.send f).takeFreshSensor k read = ((taken x.ctx).tripOne .breakout k).settled := by
    have ht := State.takeFreshSensor_breakout (s := s.send f) h hb
    rwa [show (((s.send f).strand k).input).take (s.send f).plant read = after from hafter] at ht
  have rests (h : x.ctx.running = false) (hb : x.ctx.state = .handback → read.breakout = false) :
      (s.send f).takeFreshSensor k read = if x.ctx.state = .tracking ∧ read.breakout = true ∧ r.breakout = false then
        (taken quiet).raise .breakoutSeen (some k) 0 else taken quiet := by
    have ht := State.takeFreshSensor_idle (s := s.send f) h hb
    rw [show (((s.send f).strand k).input).take (s.send f).plant read = after from hafter] at ht
    rw [hquiet]
    exact ht
  have stays (h : x.ctx.running = false) (hn : x.ctx.state ≠ .tracking)
      (hb : x.ctx.state = .handback → read.breakout = false) :
      (s.send f).takeFreshSensor k read = taken quiet :=
    (rests h hb).trans (if_neg fun ht => hn ht.1)
  obtain ⟨hframe, hothers, hinput⟩ := State.takeFreshSensor_frame (s := s.send f) (k := k) (x := read)
  rw [hexec]
  refine ⟨⟨_, rfl, hframe, hothers, hinput.trans hafter, State.takeFreshSensor_tripped (s := s.send f)⟩, hafter,
    fun h hb => congrArg _ (trips h hb), fun h hb => congrArg _ (stays ?_ ?_ fun _ => hb),
    fun h => congrArg _ (stays ?_ ?_ ?_), fun h => congrArg _ ?_⟩
  · simp [Context.running, h]
  · simp [h]
  · rcases h with h | h <;> simp [Context.running, h]
  · rcases h with h | h <;> simp [h]
  · rcases h with h | h <;> simp [h]
  · rw [rests (by simp [Context.running, h]) (by simp [h])]
    exact if_congr (and_iff_right h) rfl rfl

end Sys2Proof.Machine

/-! The Profile Store: reading field words, the validity of profiles and tables, TABLE_WRITE and TABLE_READ (chapter 10). -/

namespace Sys2Proof.Machine

/-! ## The words that are read back -/

theorem flagWord_word {w : Word} {b : Bool} (h : flagWord w = some b) : word b.toNat = w := by
  unfold flagWord at h
  split at h
  · next hw => cases h; exact hw.symm
  · split at h
    · next hw => cases h; exact hw.symm
    · cases h

theorem rangeWord_word {lo hi n : Nat} {w : Word} (h : rangeWord lo hi w = some n) : word n = w := by
  rw [← (rangeWord_eq_some.mp h).1, word_toNat]

theorem strandNumber_word {w : Word} {k : StrandId} (h : strandNumber w = some k) : word k.val = w := by
  rw [← strandNumber_eq_some.mp h, word_toNat]

theorem tableNumber_word {w : Word} {t : TableId} (h : tableNumber w = some t) : word t.val = w := by
  rw [← tableNumber_eq_some.mp h, word_toNat]

theorem optionalTable_word {w : Word} {o : Option TableId} (h : optionalTable w = some o) :
    word ((o.map fun t => t.val).getD 255) = w := by
  unfold optionalTable at h
  split at h
  · next hw => cases h; exact hw.symm
  · obtain ⟨t, ht, rfl⟩ := Option.map_eq_some_iff.mp h
    exact tableNumber_word ht

theorem segIndexWord_word {w : Word} {i : SegIndex} (h : segIndexWord w = some i) : word (segIndexCode (some i)) = w := by
  unfold segIndexWord at h
  split at h
  · next hw => cases h; exact hw.symm
  · obtain ⟨n, hn, rfl⟩ := Option.map_eq_some_iff.mp h
    exact strandNumber_word hn

theorem readEndAction_word {w : Word} {a : EndAction} (h : readEndAction w = some a) : word a.code = w := by
  unfold readEndAction at h
  split at h
  · next hw => cases h; exact hw.symm
  · split at h
    · next hw => cases h; exact hw.symm
    · cases h

/-- A segment record has the words it was read from (R30). -/
theorem readSegment_words {fields : List Word} {g : Segment} (h : readSegment fields = some g) : g.words = fields := by
  unfold readSegment at h
  split at h
  · split at h
    · next h1 h2 h3 h4 h5 h6 =>
      cases h
      simp only [Segment.words, flagWord_word h1, rangeWord_word h2, rangeWord_word h3, word_toNat, flagWord_word h4,
        optionalTable_word h5, segIndexWord_word h6]
    · cases h
  · cases h

/-- A profile record has the words it was read from (R30). -/
theorem readProfile_words {fields : List Word} {p : Profile} (h : readProfile fields = some p) : p.words = fields := by
  unfold readProfile at h
  split at h
  · split at h
    · next h1 h2 h3 h4 h5 h6 h7 h8 h9 =>
      cases h
      simp only [Profile.words, flagWord_word h1, strandNumber_word h2, tableNumber_word h3, rangeWord_word h4,
        rangeWord_word h5, rangeWord_word h6, rangeWord_word h7, strandNumber_word h8, readEndAction_word h9, word_toNat]
    · cases h
  · cases h

/-- The valid flag and zone of a COOLING write have the words they were read from, and the zone's bounds are in order (R48). -/
theorem readCooling_words {fields : List Word} {valid : Bool} {c : CoolZone} (h : readCooling fields = some (valid, c)) :
    fields = [word valid.toNat, word c.coef, word c.offset, word c.tableMin, word c.tableMax] := by
  unfold readCooling at h
  split at h
  · split at h
    · next h1 h2 h3 h4 h5 =>
      split at h
      · cases h
        simp only [flagWord_word h1, rangeWord_word h2, rangeWord_word h3, rangeWord_word h4, rangeWord_word h5]
      · cases h
    · cases h
  · cases h

/-- Part 0 of the plant table has the words it was read from (R162). -/
theorem readPlant0_words {pl pl' : Plant} {fields : List Word} (h : readPlant0 pl fields = some pl') :
    pl'.words false = fields := by
  unfold readPlant0 at h
  split at h
  · split at h
    · next h1 h2 h3 h4 h5 h6 h7 h8 h9 h10 =>
      split at h
      · cases h
        simp only [Plant.words, rangeWord_word h1, rangeWord_word h2, rangeWord_word h3, rangeWord_word h4,
          rangeWord_word h5, rangeWord_word h6, rangeWord_word h7, rangeWord_word h8, rangeWord_word h9, rangeWord_word h10]
      · cases h
    · cases h
  · cases h

/-- Part 1 of the plant table has the words it was read from (R162). -/
theorem readPlant1_words {tables : Vector CoolTable 16} {pl pl' : Plant} {fields : List Word}
    (h : readPlant1 tables pl fields = some pl') : pl'.words true = fields := by
  unfold readPlant1 at h
  split at h
  · split at h
    · next h1 h2 h3 h4 =>
      split at h
      · cases h
        simp only [Plant.words, rangeWord_word h1, rangeWord_word h2, rangeWord_word h3, optionalTable_word h4, word_toNat]
      · cases h
    · cases h
  · cases h

/-- Part 0 of the limits table has the words it was read from (R162). -/
theorem readLimits0_words {fields : List Word} {l : LimitsSpeed} (h : readLimits0 fields = some l) : l.words = fields := by
  unfold readLimits0 at h
  split at h
  · split at h
    · next h1 h2 h3 h4 =>
      cases h
      simp only [LimitsSpeed.words, rangeWord_word h1, rangeWord_word h2, rangeWord_word h3, rangeWord_word h4, word_toNat]
    · cases h
  · cases h

/-- Part 1 of the limits table has the words it was read from (R162). -/
theorem readLimits1_words {fields : List Word} {l : LimitsFlow} (h : readLimits1 fields = some l) : l.words = fields := by
  unfold readLimits1 at h
  split at h
  · split at h
    · cases h
      simp [LimitsFlow.words, Zones.toList, word_toNat]
    · cases h
  · cases h

/-! ## The ranges of the fields -/

theorem optionalTable_isSome {w : Word} : (optionalTable w).isSome = true ↔ w.toNat ≤ 15 ∨ w = 255 := by
  unfold optionalTable
  split
  · next h => simp [h]
  · next h =>
    rw [Option.isSome_map, Option.isSome_iff_ne_none, ne_eq, tableNumber_eq_none]
    exact ⟨fun h' => .inl (by omega), fun h' => by have := h'.resolve_right h; omega⟩

theorem segIndexWord_isSome {w : Word} : (segIndexWord w).isSome = true ↔ w.toNat ≤ 8 := by
  unfold segIndexWord
  split
  · next h => simp [h]
  · next h =>
    have h8 : w.toNat ≠ 8 := fun e => h (BitVec.eq_of_toNat_eq e)
    rw [Option.isSome_map, Option.isSome_iff_ne_none, ne_eq, strandNumber_eq_none]
    omega

theorem readEndAction_isSome {w : Word} : (readEndAction w).isSome = true ↔ w.toNat ≤ 1 := by
  unfold readEndAction
  split
  · next h => simp [h]
  · next h0 =>
    have h0' : w.toNat ≠ 0 := fun e => h0 (BitVec.eq_of_toNat_eq e)
    split
    · next h => simp [h]
    · next h1 =>
      have h1' : w.toNat ≠ 1 := fun e => h1 (BitVec.eq_of_toNat_eq e)
      simp; omega

theorem flagWord_isSome {w : Word} : (flagWord w).isSome = true ↔ w.toNat ≤ 1 := by
  rw [Option.isSome_iff_ne_none, ne_eq, flagWord_eq_none]; omega

theorem strandNumber_isSome {w : Word} : (strandNumber w).isSome = true ↔ w.toNat ≤ 7 := by
  rw [Option.isSome_iff_ne_none, ne_eq, strandNumber_eq_none]; omega

theorem tableNumber_isSome {w : Word} : (tableNumber w).isSome = true ↔ w.toNat ≤ 15 := by
  rw [Option.isSome_iff_ne_none, ne_eq, tableNumber_eq_none]; omega

/-- The ranges of a segment record's words (R30). -/
theorem readSegment_isSome (used target rate dwell confirm cooling next : Word) :
    (readSegment [used, target, rate, dwell, confirm, cooling, next]).isSome = true ↔
      used.toNat ≤ 1 ∧ target.toNat ≤ 8000 ∧ 1 ≤ rate.toNat ∧ rate.toNat ≤ 4095 ∧ confirm.toNat ≤ 1
        ∧ (cooling.toNat ≤ 15 ∨ cooling = 255) ∧ next.toNat ≤ 8 := by
  simp only [← flagWord_isSome, ← optionalTable_isSome, ← segIndexWord_isSome]
  unfold readSegment
  dsimp only
  split
  · next h1 h2 h3 h4 h5 h6 =>
    have := rangeWord_eq_some.mp h2; have := rangeWord_eq_some.mp h3
    simp [h1, h4, h5, h6]; omega
  · next hn =>
    simp only [Option.isSome_iff_exists]
    refine ⟨nofun, fun ⟨⟨_, h1⟩, h2, h3, h3', ⟨_, h4⟩, ⟨_, h5⟩, ⟨_, h6⟩⟩ => ?_⟩
    exact (hn _ _ _ _ _ _ h1 (rangeWord_eq_some.mpr ⟨rfl, Nat.zero_le _, h2⟩) (rangeWord_eq_some.mpr ⟨rfl, h3, h3'⟩)
      h4 h5 h6).elim

/-- The ranges of a profile record's words (R28, R30). -/
theorem readProfile_isSome (valid first cooling hold release trip count reentry action tag : Word) :
    (readProfile [valid, first, cooling, hold, release, trip, count, reentry, action, tag]).isSome = true ↔
      valid.toNat ≤ 1 ∧ first.toNat ≤ 7 ∧ cooling.toNat ≤ 15 ∧ hold.toNat ≤ 1000 ∧ release.toNat ≤ 1000 ∧ trip.toNat ≤ 1000
        ∧ 1 ≤ count.toNat ∧ count.toNat ≤ 255 ∧ reentry.toNat ≤ 7 ∧ action.toNat ≤ 1 := by
  rw [← flagWord_isSome (w := valid), ← readEndAction_isSome (w := action)]
  simp only [← strandNumber_isSome, ← tableNumber_isSome]
  unfold readProfile
  dsimp only
  split
  · next h1 h2 h3 h4 h5 h6 h7 h8 h9 =>
    have := rangeWord_eq_some.mp h4; have := rangeWord_eq_some.mp h5; have := rangeWord_eq_some.mp h6
    have := rangeWord_eq_some.mp h7
    simp [h1, h2, h3, h8, h9]; omega
  · next hn =>
    simp only [Option.isSome_iff_exists]
    refine ⟨nofun, fun ⟨⟨_, h1⟩, ⟨_, h2⟩, ⟨_, h3⟩, h4, h5, h6, h7, h7', ⟨_, h8⟩, ⟨_, h9⟩⟩ => ?_⟩
    exact (hn _ _ _ _ _ _ _ _ _ h1 h2 h3 (rangeWord_eq_some.mpr ⟨rfl, Nat.zero_le _, h4⟩)
      (rangeWord_eq_some.mpr ⟨rfl, Nat.zero_le _, h5⟩) (rangeWord_eq_some.mpr ⟨rfl, Nat.zero_le _, h6⟩)
      (rangeWord_eq_some.mpr ⟨rfl, h7, h7'⟩) h8 h9).elim

/-- The ranges of a COOLING write's words (R48). -/
theorem readCooling_isSome (valid coef offset lo hi : Word) : (readCooling [valid, coef, offset, lo, hi]).isSome = true ↔
    valid.toNat ≤ 1 ∧ coef.toNat ≤ 2000 ∧ offset.toNat ≤ 4000 ∧ lo.toNat ≤ hi.toNat ∧ hi.toNat ≤ 4000 := by
  simp only [← flagWord_isSome]
  unfold readCooling
  dsimp only
  split
  · next h1 h2 h3 h4 h5 =>
    have := rangeWord_eq_some.mp h2; have := rangeWord_eq_some.mp h3; have := rangeWord_eq_some.mp h4
    have := rangeWord_eq_some.mp h5
    rw [Option.isSome_ite]
    simp [h1]; omega
  · next hn =>
    simp only [Option.isSome_iff_exists]
    refine ⟨nofun, fun ⟨⟨_, h1⟩, h2, h3, h4, h5⟩ => ?_⟩
    exact (hn _ _ _ _ _ h1 (rangeWord_eq_some.mpr ⟨rfl, Nat.zero_le _, h2⟩) (rangeWord_eq_some.mpr ⟨rfl, Nat.zero_le _, h3⟩)
      (rangeWord_eq_some.mpr ⟨rfl, Nat.zero_le _, h4.trans h5⟩) (rangeWord_eq_some.mpr ⟨rfl, Nat.zero_le _, h5⟩)).elim

/-- The ranges of part 0 of the plant table (R162). -/
theorem readPlant0_isSome (pl : Plant) (speed rate lowering swap release swapping dip starvation deficit blend : Word) :
    (readPlant0 pl [speed, rate, lowering, swap, release, swapping, dip, starvation, deficit, blend]).isSome = true ↔
      speed.toNat ≤ 8000 ∧ 1 ≤ rate.toNat ∧ rate.toNat ≤ 4095 ∧ 1 ≤ lowering.toNat ∧ swap.toNat ≤ release.toNat
        ∧ release.toNat ≤ 1000 ∧ 1 ≤ swapping.toNat ∧ 1 ≤ dip.toNat ∧ 1 ≤ starvation.toNat ∧ 1 ≤ deficit.toNat
        ∧ 1 ≤ blend.toNat ∧ blend.toNat ≤ 1000 := by
  have top : ∀ w : Word, w.toNat ≤ 65535 := fun w => by have := w.isLt; omega
  unfold readPlant0
  dsimp only
  split
  · next h1 h2 h3 h4 h5 h6 h7 h8 h9 h10 =>
    rw [rangeWord_eq_some] at h1 h2 h3 h4 h5 h6 h7 h8 h9 h10
    rw [Option.isSome_ite]
    omega
  · next hn =>
    refine ⟨nofun, fun ⟨h1, h2, h2', h3, h4, h5, h6, h7, h8, h9, h10, h10'⟩ => ?_⟩
    exact (hn _ _ _ _ _ _ _ _ _ _ (rangeWord_eq_some.mpr ⟨rfl, Nat.zero_le _, h1⟩) (rangeWord_eq_some.mpr ⟨rfl, h2, h2'⟩)
      (rangeWord_eq_some.mpr ⟨rfl, h3, top _⟩) (rangeWord_eq_some.mpr ⟨rfl, Nat.zero_le _, h4.trans h5⟩)
      (rangeWord_eq_some.mpr ⟨rfl, Nat.zero_le _, h5⟩) (rangeWord_eq_some.mpr ⟨rfl, h6, top _⟩)
      (rangeWord_eq_some.mpr ⟨rfl, h7, top _⟩) (rangeWord_eq_some.mpr ⟨rfl, h8, top _⟩)
      (rangeWord_eq_some.mpr ⟨rfl, h9, top _⟩) (rangeWord_eq_some.mpr ⟨rfl, h10, h10'⟩)).elim

/-- A table word that names no table or a valid one (R162). -/
theorem optionalTable_valid {tables : Vector CoolTable 16} {w : Word} :
    (∃ o, optionalTable w = some o ∧ (o.all fun t => (tables[t]).valid) = true)
      ↔ w = 255 ∨ ∃ t : TableId, w.toNat = t.val ∧ (tables[t]).valid = true := by
  unfold optionalTable
  split
  · next h => simp [h]
  · next h =>
    simp only [h, false_or, Option.map_eq_some_iff, tableNumber_eq_some]
    constructor
    · rintro ⟨_, ⟨t, ht, rfl⟩, hv⟩; exact ⟨t, ht, hv⟩
    · rintro ⟨t, ht, hv⟩; exact ⟨some t, ⟨t, ht, rfl⟩, hv⟩

/-- The ranges of part 1 of the plant table (R162). -/
theorem readPlant1_isSome (tables : Vector CoolTable 16) (pl : Plant) (loss frozen clear substitute table : Word) :
    (readPlant1 tables pl [loss, frozen, clear, substitute, table]).isSome = true ↔
      1 ≤ loss.toNat ∧ 1 ≤ frozen.toNat ∧ 2 ≤ clear.toNat ∧ clear.toNat ≤ 255
        ∧ (table = 255 ∨ ∃ t : TableId, table.toNat = t.val ∧ (tables[t]).valid = true) := by
  have top : ∀ w : Word, w.toNat ≤ 65535 := fun w => by have := w.isLt; omega
  rw [← optionalTable_valid]
  unfold readPlant1
  dsimp only
  split
  · next h1 h2 h3 h4 =>
    rw [rangeWord_eq_some] at h1 h2 h3
    have bounds : 1 ≤ loss.toNat ∧ 1 ≤ frozen.toNat ∧ 2 ≤ clear.toNat ∧ clear.toNat ≤ 255 := by omega
    simp [h4, bounds]
  · next hn =>
    refine ⟨nofun, fun ⟨h1, h2, h3, h3', o, h4, _⟩ => ?_⟩
    exact (hn _ _ _ _ (rangeWord_eq_some.mpr ⟨rfl, h1, top _⟩) (rangeWord_eq_some.mpr ⟨rfl, h2, top _⟩)
      (rangeWord_eq_some.mpr ⟨rfl, h3, h3'⟩) h4).elim

/-- The ranges of part 0 of the limits table (R162). -/
theorem readLimits0_isSome (speed rate reserve band count : Word) :
    (readLimits0 [speed, rate, reserve, band, count]).isSome = true ↔
      100 ≤ speed.toNat ∧ speed.toNat ≤ 8000 ∧ 1 ≤ rate.toNat ∧ rate.toNat ≤ 4095 ∧ band.toNat ≤ 8000
        ∧ 1 ≤ count.toNat := by
  have top : count.toNat ≤ 65535 := by have := count.isLt; omega
  unfold readLimits0
  dsimp only
  split
  · next h1 h2 h3 h4 =>
    rw [rangeWord_eq_some] at h1 h2 h3 h4
    simp only [Option.isSome_some, true_iff]
    omega
  · next hn =>
    refine ⟨nofun, fun ⟨h1, h1', h2, h2', h3, h4⟩ => ?_⟩
    exact (hn _ _ _ _ (rangeWord_eq_some.mpr ⟨rfl, h1, h1'⟩) (rangeWord_eq_some.mpr ⟨rfl, h2, h2'⟩)
      (rangeWord_eq_some.mpr ⟨rfl, Nat.zero_le _, h3⟩) (rangeWord_eq_some.mpr ⟨rfl, h4, top⟩)).elim

theorem zoneLimitsOk_iff (lo hi trip : Word) :
    zoneLimitsOk lo hi trip = true ↔ lo.toNat ≤ trip.toNat ∧ trip.toNat ≤ hi.toNat ∧ hi.toNat ≤ 4000 := by
  simp only [zoneLimitsOk, decide_eq_true_eq]; omega

/-- The ranges of part 1 of the limits table (R162). -/
theorem readLimits1_isSome (f1 f2 f3 f4 c1 c2 c3 c4 t1 t2 t3 t4 : Word) :
    (readLimits1 [f1, f2, f3, f4, c1, c2, c3, c4, t1, t2, t3, t4]).isSome = true ↔
      (f1.toNat ≤ t1.toNat ∧ t1.toNat ≤ c1.toNat ∧ c1.toNat ≤ 4000)
        ∧ (f2.toNat ≤ t2.toNat ∧ t2.toNat ≤ c2.toNat ∧ c2.toNat ≤ 4000)
        ∧ (f3.toNat ≤ t3.toNat ∧ t3.toNat ≤ c3.toNat ∧ c3.toNat ≤ 4000)
        ∧ (f4.toNat ≤ t4.toNat ∧ t4.toNat ≤ c4.toNat ∧ c4.toNat ≤ 4000) := by
  unfold readLimits1
  dsimp only
  rw [Option.isSome_ite]
  simp only [zoneLimitsOk_iff]

/-! ## Validity -/

theorem mem_segIds (n : Fin 8) : n ∈ segIds := by
  revert n; decide

theorem segmentOk_iff (tables : Vector CoolTable 16) (segs : Vector Segment 8) (g : Segment) :
    segmentOk tables segs g = true ↔
      (∀ n, g.next = .seg n → (segs[n]).used = true) ∧ ∀ t, g.cooling = some t → (tables[t]).valid = true := by
  unfold segmentOk
  rw [Bool.and_eq_true]
  refine and_congr ?_ ?_
  · cases g.next <;> simp
  · cases g.cooling <;> simp

/-- The checks of R28 and R32, one by one. -/
theorem profileOk_iff (tables : Vector CoolTable 16) (segs : Vector Segment 8) (r : Profile) :
    profileOk tables segs r = true ↔
      r.releaseBand ≤ r.holdBand ∧ r.holdBand ≤ r.tripBand
        ∧ (r.valid = true →
          (segs[r.first]).used = true ∧ (segs[r.reentry]).used = true ∧ (tables[r.cooling]).valid = true
          ∧ ∀ n : Fin 8, (segs[n]).used = true →
            (∀ n', (segs[n]).next = .seg n' → (segs[n']).used = true)
            ∧ ∀ t, (segs[n]).cooling = some t → (tables[t]).valid = true) := by
  have segs_ok : (segIds.all fun n => !(segs[n]).used || segmentOk tables segs segs[n]) = true ↔
      ∀ n : Fin 8, (segs[n]).used = true → segmentOk tables segs segs[n] = true := by
    rw [List.all_eq_true]
    refine ⟨fun h n hu => ?_, fun h n _ => ?_⟩
    · have := h n (mem_segIds n)
      rw [hu] at this
      simpa using this
    · cases hu : (segs[n]).used with
      | false => rfl
      | true => exact h n hu
  simp only [← segmentOk_iff, ← segs_ok]
  unfold profileOk Profile.bandsOk
  cases r.valid <;> simp [and_assoc]

/-- A table that must stay valid: a valid profile, the plant table or a pin names it (R34, R49). -/
theorem State.tableNamed_iff (s : State) (t : TableId) : s.tableNamed t = true ↔
    (∃ p, (s.working.profile p).valid = true ∧ ((s.working.profile p).cooling = t
      ∨ ∃ n, (s.working.segment p n).used = true ∧ (s.working.segment p n).cooling = some t))
    ∨ s.plant.globalTable = some t ∨ ∃ k, (s.strand k).pin = some t := by
  have names : s.working.namesTable t = true ↔ ∃ p, (s.working.profile p).valid = true ∧ ((s.working.profile p).cooling = t
      ∨ ∃ n, (s.working.segment p n).used = true ∧ (s.working.segment p n).cooling = some t) := by
    simp [Image.namesTable, List.any_eq_true, mem_segIds]
  have pins : (strandIds.any fun k => decide ((s.strand k).pin = some t)) = true ↔ ∃ k, (s.strand k).pin = some t := by
    simp [List.any_eq_true, mem_strandIds]
  unfold State.tableNamed
  rw [Bool.or_eq_true, Bool.or_eq_true, names, pins, decide_eq_true_eq, or_assoc]

end Sys2Proof.Machine

namespace Sys2Proof.Machine

/-! ## Addresses -/

theorem segmentAddress_eq {index : Word} {p : ProfileId} {n : Fin 8} (h : index.toNat = 8 * p.val + n.val) :
    segmentAddress index = some (p, n) := by
  have hp := p.isLt; have hn := n.isLt
  have hlt : index.toNat < 256 := by omega
  simp only [segmentAddress, hlt, dite_true, Option.some.injEq, Prod.mk.injEq, Fin.ext_iff]
  omega

theorem segmentAddress_none {index : Word} (h : 255 < index.toNat) : segmentAddress index = none :=
  dif_neg (by omega)

theorem coolingAddress_eq {index : Word} {t : TableId} {z : Fin 4} (h : index.toNat = 4 * t.val + z.val) :
    coolingAddress index = some (t, z.val) := by
  have ht := t.isLt; have hz := z.isLt
  have hlt : index.toNat < 64 := by omega
  simp only [coolingAddress, hlt, dite_true, Option.some.injEq, Prod.mk.injEq, Fin.ext_iff]
  omega

theorem coolingAddress_none {index : Word} (h : 63 < index.toNat) : coolingAddress index = none :=
  dif_neg (by omega)

/-- The zone number in a COOLING index. -/
theorem coolingAddress_zone {index : Word} {t : TableId} (h : index.toNat / 4 = t.val) :
    index.toNat = 4 * t.val + (⟨index.toNat % 4, Nat.mod_lt _ (by decide)⟩ : Fin 4).val := by
  dsimp only; omega

/-- The segment number in a SEGMENT index. -/
theorem segmentAddress_segment {index : Word} {p : ProfileId} (h : index.toNat / 8 = p.val) :
    index.toNat = 8 * p.val + (⟨index.toNat % 8, Nat.mod_lt _ (by decide)⟩ : Fin 8).val := by
  dsimp only; omega

/-! ## TABLE_WRITE -/

section
variable {s : State} {q : ReqHead} {index : Word} {fields : List Word}

/-- A TABLE_WRITE of the right length, where its owning rule accepts it. -/
theorem State.write_accepted {kind : Nat} {body : State → Answer} {i : Image} (ha : s.answers q)
    (hl : tableLengthOk kind index fields = true) (hb : body s = .ok ({ s with working := i }, [])) :
    (.next (s.answerSized 25 q (tableLengthOk kind index fields) body) : Outcome)
      = .next ({ s with working := i }.reply 25 q .ok []) := by
  unfold State.answerSized
  rw [ha.1, hl]
  exact congrArg _ (State.answer_ok ha hb)

/-- A TABLE_WRITE of the right length, where its owning rule refuses it. -/
theorem State.write_refused {kind : Nat} {body : State → Answer} {r : Result} (ha : s.answers q)
    (hl : tableLengthOk kind index fields = true) (hb : body s = .error r) :
    (.next (s.answerSized 25 q (tableLengthOk kind index fields) body) : Outcome) = .next (s.reply 25 q r []) := by
  unfold State.answerSized
  rw [ha.1, hl]
  exact congrArg _ (State.answer_error ha hb)

/-! ### The checks in their order (R161) -/

theorem State.writeTable_closed (g u l : Bool) (i : Option Image) (h : s.latchOpen = false) :
    s.writeTable g u l i = .error .closed := if_pos (by simp [h])

theorem State.writeTable_busy (g u l : Bool) (i : Option Image) (h : s.latchOpen = true) (hb : s.op ≠ .idle) :
    s.writeTable g u l i = .error .busy := by
  simp [State.writeTable, State.busy, h, hb]

section
variable (ho : s.latchOpen = true) (hb : s.op = .idle)
include ho hb

theorem State.writeTable_guarded (u l : Bool) (i : Option Image) : s.writeTable true u l i = .error .guarded := by
  simp [State.writeTable, State.busy, ho, hb]

theorem State.writeTable_inUse (l : Bool) (i : Option Image) : s.writeTable false true l i = .error .inUse := by
  simp [State.writeTable, State.busy, ho, hb]

theorem State.writeTable_locked (i : Option Image) : s.writeTable false false true i = .error .locked := by
  simp [State.writeTable, State.busy, ho, hb]

theorem State.writeTable_range : s.writeTable false false false none = .error .range := by
  simp [State.writeTable, State.busy, ho, hb]

theorem State.writeTable_written (i : Image) :
    s.writeTable false false false (some i) = .ok ({ s with working := i }, []) := by
  simp [State.writeTable, State.busy, ho, hb]

end

/-! ### The owning rules by their addresses -/

theorem writeSegmentBody_eq {p : ProfileId} {n : Fin 8} (h : index.toNat = 8 * p.val + n.val) :
    writeSegmentBody index fields s
      = s.writeTable (rangeProtects s.working.config.rangeCode p) (s.profileInUse p) false
        ((readSegment fields).bind (s.working.putSegment p n)) := by
  simp only [writeSegmentBody, segmentAddress_eq h]

theorem writeSegmentBody_off (h : 255 < index.toNat) :
    writeSegmentBody index fields s = s.writeTable false false false none := by
  simp only [writeSegmentBody, segmentAddress_none h]

theorem writeProfileBody_eq {p : ProfileId} (h : index.toNat = p.val) :
    writeProfileBody index fields s
      = s.writeTable (rangeProtects s.working.config.rangeCode p) (s.profileInUse p) false
        ((readProfile fields).bind (s.working.putProfile p)) := by
  simp only [writeProfileBody, profileNumber_eq_some.mpr h]

theorem writeProfileBody_off (h : 31 < index.toNat) :
    writeProfileBody index fields s = s.writeTable false false false none := by
  simp only [writeProfileBody, profileNumber_eq_none.mpr h]

theorem writeCoolingBody_eq {t : TableId} {z : Fin 4} (h : index.toNat = 4 * t.val + z.val) :
    writeCoolingBody index fields s
      = s.writeTable s.working.config.coolingFlag (s.tableInUse t) false
        ((readCooling fields).bind (s.putCooling t z.val)) := by
  simp only [writeCoolingBody, coolingAddress_eq h]

theorem writeCoolingBody_off (h : 63 < index.toNat) :
    writeCoolingBody index fields s = s.writeTable false false false none := by
  simp only [writeCoolingBody, coolingAddress_none h]

/-- PLANT and LIMITS have the parts 0 and 1 (R162). -/
theorem index_ne_of_one_lt (h : 1 < index.toNat) : index ≠ 0 ∧ index ≠ 1 := by
  constructor <;> (rintro rfl; simp at h)

theorem index_le_one (h : index.toNat ≤ 1) : index = 0 ∨ index = 1 :=
  (Nat.le_one_iff_eq_zero_or_eq_one.mp h).imp (fun h => BitVec.eq_of_toNat_eq h) fun h => BitVec.eq_of_toNat_eq h

theorem writePlantBody_off (h : 1 < index.toNat) : writePlantBody index fields s = s.writeTable false false false none := by
  obtain ⟨h0, h1⟩ := index_ne_of_one_lt h
  unfold writePlantBody Image.putPlant
  rw [if_neg h0, if_neg h1]

theorem writeLimitsBody_eq (h : index.toNat ≤ 1) : writeLimitsBody index fields s
    = s.writeTable false s.limitsInUse s.oneTime.isSome (s.working.putLimits index fields) := by
  unfold writeLimitsBody
  simp only [index_le_one h, and_true, Bool.decide_eq_true]

theorem writeLimitsBody_off (h : 1 < index.toNat) :
    writeLimitsBody index fields s = s.writeTable false false s.oneTime.isSome none := by
  obtain ⟨h0, h1⟩ := index_ne_of_one_lt h
  unfold writeLimitsBody Image.putLimits
  rw [if_neg h0, if_neg h1]
  simp only [h0, h1, or_self, and_false, decide_false]

/-- The length is right for an index that sets none (R161). -/
theorem tableLengthOk_off (h : 1 < index.toNat) : tableLengthOk 3 index fields = true ∧ tableLengthOk 4 index fields = true := by
  obtain ⟨h0, h1⟩ := index_ne_of_one_lt h
  unfold tableLengthOk tableFieldCount
  rw [if_neg h0, if_neg h1, if_neg h0, if_neg h1]
  exact ⟨rfl, rfl⟩

theorem tableLengthOk_segment (h : fields.length = 7) : tableLengthOk 0 index fields = true := decide_eq_true h
theorem tableLengthOk_profile (h : fields.length = 10) : tableLengthOk 1 index fields = true := decide_eq_true h
theorem tableLengthOk_cooling (h : fields.length = 5) : tableLengthOk 2 index fields = true := decide_eq_true h
theorem tableLengthOk_plant0 (h : fields.length = 10) : tableLengthOk 3 0 fields = true := decide_eq_true h
theorem tableLengthOk_plant1 (h : fields.length = 5) : tableLengthOk 3 1 fields = true := decide_eq_true h
theorem tableLengthOk_limits0 (h : fields.length = 5) : tableLengthOk 4 0 fields = true := decide_eq_true h
theorem tableLengthOk_limits1 (h : fields.length = 12) : tableLengthOk 4 1 fields = true := decide_eq_true h

end

/-! ### The records that a write replaces -/

/-- A segment write is done where it keeps a valid profile valid (R33). -/
theorem Image.putSegment_eq (i : Image) (p : ProfileId) (n : Fin 8) (g : Segment) : i.putSegment p n g =
    if (i.profile p).valid = true → profileOk i.tables ((i.segments[p]).set n g) (i.profile p) = true then
      some { i with segments := i.segments.set p ((i.segments[p]).set n g) }
    else none := by
  refine if_congr ?_ rfl rfl
  cases (i.profile p).valid <;> simp

/-- A COOLING write is done where it leaves the table valid, or the table may become not valid (R34, R49). -/
theorem State.putCooling_eq (s : State) (t : TableId) (z : Nat) (valid : Bool) (c : CoolZone) :
    s.putCooling t z (valid, c) =
      if valid = false ∧ (s.working.tables[t]).valid = true ∧ s.tableNamed t = true then none
      else some { s.working with
        tables := s.working.tables.set t { valid, zones := Zones.put (s.working.tables[t]).zones z c } } :=
  if_congr (by simp) rfl rfl

/-! ### The writes that are taken -/

/-- Settles O45: each owning rule accepts, and its image is the working image with the record replaced. -/
theorem tableWritesReplaceRecords : Obligations.TableWritesReplaceRecords := by
  intro s q index fields ha ho hb i put
  refine ⟨fun p n g hidx hg hu hr hok => ?_, fun p r hidx hg hu hr hok => ?_, fun t z valid c hidx hg hu hr hok => ?_,
    fun pl h => ?_, fun l h0 hu hone hr => ?_, fun l h1 hu hone hr => ?_⟩
  · refine State.write_accepted ha (tableLengthOk_segment (by rw [← readSegment_words hr]; rfl)) ?_
    rw [writeSegmentBody_eq hidx, hg, hu, hr, Option.bind_some, Image.putSegment_eq, if_pos hok]
    exact State.writeTable_written ho hb _
  · refine State.write_accepted ha (tableLengthOk_profile (by rw [← readProfile_words hr]; rfl)) ?_
    rw [writeProfileBody_eq hidx, hg, hu, hr, Option.bind_some, Image.putProfile, if_pos hok]
    exact State.writeTable_written ho hb _
  · refine State.write_accepted ha (tableLengthOk_cooling (by rw [readCooling_words hr]; rfl)) ?_
    have kept : ¬ (valid = false ∧ (i.tables[t]).valid = true ∧ s.tableNamed t = true) := by
      rintro ⟨h1, h2, h3⟩
      rcases hok with h | h | h
      · rw [h1] at h; cases h
      · cases h2.symm.trans h
      · cases h3.symm.trans h
    rw [writeCoolingBody_eq hidx, hg, hu, hr, Option.bind_some, State.putCooling_eq, if_neg kept]
    exact State.writeTable_written ho hb _
  · rcases h with ⟨rfl, hr⟩ | ⟨rfl, hr⟩
    · refine State.write_accepted ha (tableLengthOk_plant0 (by rw [← readPlant0_words hr]; rfl)) ?_
      rw [writePlantBody, Image.putPlant, if_pos rfl, hr]
      exact State.writeTable_written ho hb _
    · refine State.write_accepted ha (tableLengthOk_plant1 (by rw [← readPlant1_words hr]; rfl)) ?_
      rw [writePlantBody, Image.putPlant, if_neg (by decide), if_pos rfl, hr]
      exact State.writeTable_written ho hb _
  · subst h0
    refine State.write_accepted ha (tableLengthOk_limits0 (by rw [← readLimits0_words hr]; rfl)) ?_
    have unlocked : s.oneTime.isSome = false := by rw [hone]; rfl
    rw [writeLimitsBody_eq (by decide), hu, unlocked, Image.putLimits, if_pos rfl, hr]
    exact State.writeTable_written ho hb _
  · subst h1
    refine State.write_accepted ha (tableLengthOk_limits1 (by rw [← readLimits1_words hr]; rfl)) ?_
    have unlocked : s.oneTime.isSome = false := by rw [hone]; rfl
    rw [writeLimitsBody_eq (by decide), hu, unlocked, Image.putLimits, if_neg (by decide), if_pos rfl, hr]
    exact State.writeTable_written ho hb _

/-! ### The writes that are refused -/

section
variable {s : State} {q : ReqHead} {index : Word} {fields : List Word}

/-- The five TABLE_WRITE rows, each with its owning rule, and what that rule asks of the store (R161). -/
theorem exec_tableWrite {i : Instr} {kind : Nat}
    (hi : i = .tableWriteSegment q index fields ∧ kind = 0 ∨ i = .tableWriteProfile q index fields ∧ kind = 1
      ∨ i = .tableWriteCooling q index fields ∧ kind = 2 ∨ i = .tableWritePlant q index fields ∧ kind = 3
      ∨ i = .tableWriteLimits q index fields ∧ kind = 4) :
    ∃ body : State → Answer, exec i s = .next (s.answerSized 25 q (tableLengthOk kind index fields) body)
      ∧ ∃ g u l image, body s = s.writeTable g u l image := by
  rcases hi with ⟨rfl, rfl⟩ | ⟨rfl, rfl⟩ | ⟨rfl, rfl⟩ | ⟨rfl, rfl⟩ | ⟨rfl, rfl⟩
  · refine ⟨_, rfl, ?_⟩
    unfold writeSegmentBody
    split <;> exact ⟨_, _, _, _, rfl⟩
  · refine ⟨_, rfl, ?_⟩
    unfold writeProfileBody
    split <;> exact ⟨_, _, _, _, rfl⟩
  · refine ⟨_, rfl, ?_⟩
    unfold writeCoolingBody
    split <;> exact ⟨_, _, _, _, rfl⟩
  · exact ⟨_, rfl, _, _, _, _, rfl⟩
  · exact ⟨_, rfl, _, _, _, _, rfl⟩

section
variable (ha : s.answers q) (ho : s.latchOpen = true) (hb : s.op = .idle)
include ha ho hb

/-- A SEGMENT write of the right length is refused PROTECTED, INUSE or RANGE (R33, R161, R164). -/
theorem writeSegment_refused (hl : fields.length = 7) {p : ProfileId} {n : Fin 8} (hidx : index.toNat = 8 * p.val + n.val) :
    (rangeProtects s.working.config.rangeCode p = true →
      exec (.tableWriteSegment q index fields) s = .next (s.reply 25 q .guarded []))
    ∧ (rangeProtects s.working.config.rangeCode p = false → s.profileInUse p = true →
      exec (.tableWriteSegment q index fields) s = .next (s.reply 25 q .inUse []))
    ∧ (rangeProtects s.working.config.rangeCode p = false → s.profileInUse p = false →
      (readSegment fields).bind (s.working.putSegment p n) = none →
      exec (.tableWriteSegment q index fields) s = .next (s.reply 25 q .range [])) := by
  refine ⟨fun hg => ?_, fun hg hu => ?_, fun hg hu hr => ?_⟩ <;>
    refine State.write_refused ha (tableLengthOk_segment hl) ((writeSegmentBody_eq hidx).trans ?_)
  · rw [hg]; exact State.writeTable_guarded ho hb _ _ _
  · rw [hg, hu]; exact State.writeTable_inUse ho hb _ _
  · rw [hg, hu, hr]; exact State.writeTable_range ho hb

/-- A PROFILE write of the right length is refused PROTECTED, INUSE or RANGE (R32, R161, R164). -/
theorem writeProfile_refused (hl : fields.length = 10) {p : ProfileId} (hidx : index.toNat = p.val) :
    (rangeProtects s.working.config.rangeCode p = true →
      exec (.tableWriteProfile q index fields) s = .next (s.reply 25 q .guarded []))
    ∧ (rangeProtects s.working.config.rangeCode p = false → s.profileInUse p = true →
      exec (.tableWriteProfile q index fields) s = .next (s.reply 25 q .inUse []))
    ∧ (rangeProtects s.working.config.rangeCode p = false → s.profileInUse p = false →
      (readProfile fields).bind (s.working.putProfile p) = none →
      exec (.tableWriteProfile q index fields) s = .next (s.reply 25 q .range [])) := by
  refine ⟨fun hg => ?_, fun hg hu => ?_, fun hg hu hr => ?_⟩ <;>
    refine State.write_refused ha (tableLengthOk_profile hl) ((writeProfileBody_eq hidx).trans ?_)
  · rw [hg]; exact State.writeTable_guarded ho hb _ _ _
  · rw [hg, hu]; exact State.writeTable_inUse ho hb _ _
  · rw [hg, hu, hr]; exact State.writeTable_range ho hb

/-- A COOLING write of the right length is refused PROTECTED, INUSE or RANGE (R49, R161, R164). -/
theorem writeCooling_refused (hl : fields.length = 5) {t : TableId} (hidx : index.toNat / 4 = t.val) :
    (s.working.config.coolingFlag = true → exec (.tableWriteCooling q index fields) s = .next (s.reply 25 q .guarded []))
    ∧ (s.working.config.coolingFlag = false → s.tableInUse t = true →
      exec (.tableWriteCooling q index fields) s = .next (s.reply 25 q .inUse []))
    ∧ (s.working.config.coolingFlag = false → s.tableInUse t = false →
      (readCooling fields).bind (s.putCooling t (index.toNat % 4)) = none →
      exec (.tableWriteCooling q index fields) s = .next (s.reply 25 q .range [])) := by
  have hbody := writeCoolingBody_eq (s := s) (fields := fields) (coolingAddress_zone hidx)
  refine ⟨fun hg => ?_, fun hg hu => ?_, fun hg hu hr => ?_⟩ <;>
    refine State.write_refused ha (tableLengthOk_cooling hl) (hbody.trans ?_)
  · rw [hg]; exact State.writeTable_guarded ho hb _ _ _
  · rw [hg, hu]; exact State.writeTable_inUse ho hb _ _
  · rw [hg, hu]; exact (congrArg _ hr).trans (State.writeTable_range ho hb)

/-- A PLANT write is refused RANGE alone (R162). -/
theorem writePlant_refused (h : 1 < index.toNat ∨ index = 0 ∧ fields.length = 10 ∧ readPlant0 s.working.plant fields = none
      ∨ index = 1 ∧ fields.length = 5 ∧ readPlant1 s.working.tables s.working.plant fields = none) :
    exec (.tableWritePlant q index fields) s = .next (s.reply 25 q .range []) := by
  rcases h with h | ⟨rfl, hl, hr⟩ | ⟨rfl, hl, hr⟩
  · exact State.write_refused ha (tableLengthOk_off h).1 ((writePlantBody_off h).trans (State.writeTable_range ho hb))
  · refine State.write_refused ha (tableLengthOk_plant0 hl) ?_
    rw [writePlantBody, Image.putPlant, if_pos rfl, hr]
    exact State.writeTable_range ho hb
  · refine State.write_refused ha (tableLengthOk_plant1 hl) ?_
    rw [writePlantBody, Image.putPlant, if_neg (by decide), if_pos rfl, hr]
    exact State.writeTable_range ho hb

/-- A LIMITS write is refused INUSE, LOCKED or RANGE (R161, R162). -/
theorem writeLimits_refused (hl : tableLengthOk 4 index fields = true) :
    (index.toNat ≤ 1 → s.limitsInUse = true → exec (.tableWriteLimits q index fields) s = .next (s.reply 25 q .inUse []))
    ∧ (1 < index.toNat ∨ s.limitsInUse = false → s.oneTime ≠ none →
      exec (.tableWriteLimits q index fields) s = .next (s.reply 25 q .locked []))
    ∧ (1 < index.toNat ∨ s.limitsInUse = false → s.oneTime = none → s.working.putLimits index fields = none →
      exec (.tableWriteLimits q index fields) s = .next (s.reply 25 q .range [])) := by
  have body : 1 < index.toNat ∨ s.limitsInUse = false → writeLimitsBody index fields s
      = s.writeTable false false s.oneTime.isSome (s.working.putLimits index fields) := by
    intro h
    by_cases hi : index.toNat ≤ 1
    · rw [writeLimitsBody_eq hi, h.resolve_left (by omega)]
    · obtain ⟨h0, h1⟩ := index_ne_of_one_lt (not_le.mp hi)
      rw [writeLimitsBody_off (not_le.mp hi), Image.putLimits, if_neg h0, if_neg h1]
  refine ⟨fun hi hu => ?_, fun h hone => ?_, fun h hone hr => ?_⟩ <;> refine State.write_refused ha hl ?_
  · rw [writeLimitsBody_eq hi, hu]; exact State.writeTable_inUse ho hb _ _
  · rw [body h, Option.isSome_iff_ne_none.mpr hone]; exact State.writeTable_locked ho hb _
  · rw [body h, hr, show s.oneTime.isSome = false by rw [hone]; rfl]; exact State.writeTable_range ho hb

end

/-- A write of a record that names nothing is refused RANGE (R30, R48). -/
theorem State.write_off (ha : s.answers q) (ho : s.latchOpen = true) (hb : s.op = .idle) {kind : Nat} {body : State → Answer}
    (hl : tableLengthOk kind index fields = true) (h : body s = s.writeTable false false false none) :
    (.next (s.answerSized 25 q (tableLengthOk kind index fields) body) : Outcome) = .next (s.reply 25 q .range []) :=
  State.write_refused ha hl (h.trans (State.writeTable_range ho hb))

/-- The segment write that does not happen (R30, R33). -/
theorem putSegment_refused {p : ProfileId} {n : Fin 8} (h : readSegment fields = none ∨ ∃ g, readSegment fields = some g
      ∧ (s.working.profile p).valid = true
      ∧ profileOk s.working.tables ((s.working.segments[p]).set n g) (s.working.profile p) = false) :
    (readSegment fields).bind (s.working.putSegment p n) = none := by
  rcases h with h | ⟨g, h, hv, hf⟩
  · rw [h]; rfl
  · rw [h, Option.bind_some, Image.putSegment_eq, if_neg]
    intro hok
    rw [hok hv] at hf; cases hf

/-- The profile write that does not happen (R30, R32). -/
theorem putProfile_refused {p : ProfileId} (h : readProfile fields = none ∨ ∃ r, readProfile fields = some r
      ∧ profileOk s.working.tables s.working.segments[p] r = false) :
    (readProfile fields).bind (s.working.putProfile p) = none := by
  rcases h with h | ⟨r, h, hf⟩
  · rw [h]; rfl
  · rw [h, Option.bind_some]
    exact if_neg (by rw [hf]; simp)

/-- The cooling write that does not happen (R34, R48, R49). -/
theorem putCooling_refused {t : TableId} (z : Nat) (h : readCooling fields = none ∨ ∃ c, readCooling fields = some (false, c)
      ∧ (s.working.tables[t]).valid = true ∧ s.tableNamed t = true) :
    (readCooling fields).bind (s.putCooling t z) = none := by
  rcases h with h | ⟨c, h, hv, hn⟩
  · rw [h]; rfl
  · rw [h, Option.bind_some, State.putCooling_eq, if_pos ⟨rfl, hv, hn⟩]

end

/-- Settles O46: the checks of each owning rule in their order, and what the readers and the validity rules accept. -/
theorem tableWriteRefusalsInOrder : Obligations.TableWriteRefusalsInOrder := by
  unfold Obligations.TableWriteRefusalsInOrder
  refine ⟨?_, readSegment_isSome, readProfile_isSome, readCooling_isSome, readPlant0_isSome, readPlant1_isSome,
    readLimits0_isSome, readLimits1_isSome, profileOk_iff, State.tableNamed_iff⟩
  intro s q index fields ha refused
  refine ⟨fun i kind hi hl => ?_, fun ho hb => ?_, fun ho hb => ?_⟩
  · obtain ⟨body, hexec, g, u, l, image, hbody⟩ := exec_tableWrite (s := s) hi
    rw [hexec]
    exact ⟨fun h => State.write_refused ha hl (hbody.trans (State.writeTable_closed _ _ _ _ h)),
      fun h hb => State.write_refused ha hl (hbody.trans (State.writeTable_busy _ _ _ _ h hb))⟩
  · refine ⟨fun p hidx hl => ?_, fun p hidx hl => ?_, fun t hidx hl => ?_, fun hidx hl => ?_⟩
    · obtain ⟨hguard, huse, -⟩ := writeSegment_refused ha ho hb hl (segmentAddress_segment hidx)
      exact ⟨hguard, huse⟩
    · obtain ⟨hguard, huse, -⟩ := writeProfile_refused ha ho hb hl hidx
      exact ⟨hguard, huse⟩
    · obtain ⟨hguard, huse, -⟩ := writeCooling_refused ha ho hb hl hidx
      exact ⟨hguard, huse⟩
    · obtain ⟨huse, hlock, -⟩ := writeLimits_refused ha ho hb hl
      exact ⟨huse hidx, fun h => hlock (.inr h)⟩
  · refine ⟨fun hl => ⟨fun h => ?_, fun p n hidx hg hu hr => ?_⟩, fun hl => ⟨fun h => ?_, fun p hidx hg hu hr => ?_⟩,
      fun hl => ⟨fun h => ?_, fun t hidx hg hu hr => ?_⟩, writePlant_refused ha ho hb, fun h hone => ?_, fun hone h => ?_⟩
    · exact State.write_off ha ho hb (tableLengthOk_segment hl) (writeSegmentBody_off h)
    · exact (writeSegment_refused ha ho hb hl hidx).2.2 hg hu (putSegment_refused hr)
    · exact State.write_off ha ho hb (tableLengthOk_profile hl) (writeProfileBody_off h)
    · exact (writeProfile_refused ha ho hb hl hidx).2.2 hg hu (putProfile_refused hr)
    · exact State.write_off ha ho hb (tableLengthOk_cooling hl) (writeCoolingBody_off h)
    · exact (writeCooling_refused ha ho hb hl hidx).2.2 hg hu (putCooling_refused _ hr)
    · exact (writeLimits_refused ha ho hb (tableLengthOk_off h).2).2.1 (.inl h) hone
    · rcases h with h | ⟨hu, ⟨rfl, hl, hr⟩ | ⟨rfl, hl, hr⟩⟩
      · obtain ⟨h0, h1⟩ := index_ne_of_one_lt h
        refine (writeLimits_refused ha ho hb (tableLengthOk_off h).2).2.2 (.inl h) hone ?_
        rw [Image.putLimits, if_neg h0, if_neg h1]
      · refine (writeLimits_refused ha ho hb (tableLengthOk_limits0 hl)).2.2 (.inr hu) hone ?_
        rw [Image.putLimits, if_pos rfl, hr]; rfl
      · refine (writeLimits_refused ha ho hb (tableLengthOk_limits1 hl)).2.2 (.inr hu) hone ?_
        rw [Image.putLimits, if_neg (by decide), if_pos rfl, hr]; rfl

end Sys2Proof.Machine

namespace Sys2Proof.Machine

/-! ## TABLE_READ -/

section
variable {s : State} {q : ReqHead} {kind index : Word}

/-- A record or part that is there is read with its words (R163). -/
theorem exec_tableRead_ok {ws : List Word} (ha : s.answers q) (h : s.readTable kind.toNat index = .ok ws) :
    exec (.tableRead q kind index) s = .next (s.reply 26 q .ok ws) := by
  refine congrArg Host.Outcome.next (State.answer_ok ha ?_)
  unfold tableReadBody
  rw [h]

theorem exec_tableRead_error {r : Result} (ha : s.answers q) (h : s.readTable kind.toNat index = .error r) :
    exec (.tableRead q kind index) s = .next (s.reply 26 q r []) := by
  refine congrArg Host.Outcome.next (State.answer_error ha ?_)
  unfold tableReadBody
  rw [h]

theorem State.readTable_segment (s : State) {p : ProfileId} {n : Fin 8} (h : index.toNat = 8 * p.val + n.val) :
    s.readTable 0 index = .ok (s.working.segment p n).words := by
  simp only [State.readTable, segmentAddress_eq h]

theorem State.readTable_profile (s : State) {p : ProfileId} (h : index.toNat = p.val) :
    s.readTable 1 index = .ok (s.working.profile p).words := by
  simp only [State.readTable, profileNumber_eq_some.mpr h]

theorem State.readTable_cooling (s : State) {t : TableId} {z : Fin 4} (h : index.toNat = 4 * t.val + z.val) :
    s.readTable 2 index = .ok [word (s.working.tables[t]).valid.toNat,
      word (Zones.at (s.working.tables[t]).zones z.val).coef, word (Zones.at (s.working.tables[t]).zones z.val).offset,
      word (Zones.at (s.working.tables[t]).zones z.val).tableMin,
      word (Zones.at (s.working.tables[t]).zones z.val).tableMax] := by
  simp only [State.readTable, coolingAddress_eq h]

theorem State.readTable_plant (s : State) :
    s.readTable 3 0 = .ok (s.plant.words false) ∧ s.readTable 3 1 = .ok (s.plant.words true) := ⟨rfl, rfl⟩

theorem State.readTable_limits0 {l : LimitsSpeed} (h : s.working.limitsSpeed = some l) :
    s.readTable 4 0 = .ok l.words := by
  simp [State.readTable, h]

theorem State.readTable_limits1 {l : LimitsFlow} (h : s.working.limitsFlow = some l) :
    s.readTable 4 1 = .ok l.words := by
  simp [State.readTable, h]

/-- A kind or index out of range names nothing to read (R163). -/
theorem State.readTable_range (s : State) (h : 4 < kind.toNat ∨ kind = 0 ∧ 255 < index.toNat ∨ kind = 1 ∧ 31 < index.toNat
      ∨ kind = 2 ∧ 63 < index.toNat ∨ kind = 3 ∧ 1 < index.toNat ∨ kind = 4 ∧ 1 < index.toNat) :
    s.readTable kind.toNat index = .error .range := by
  rcases h with h | ⟨rfl, h⟩ | ⟨rfl, h⟩ | ⟨rfl, h⟩ | ⟨rfl, h⟩ | ⟨rfl, h⟩
  · unfold State.readTable
    split
    · omega
    · omega
    · omega
    · omega
    · omega
    · rfl
  · change s.readTable 0 index = _
    simp only [State.readTable, segmentAddress_none h]
  · change s.readTable 1 index = _
    simp only [State.readTable, profileNumber_eq_none.mpr h]
  · change s.readTable 2 index = _
    simp only [State.readTable, coolingAddress_none h]
  · obtain ⟨h0, h1⟩ := index_ne_of_one_lt h
    change s.readTable 3 index = _
    simp only [State.readTable, h0, h1, if_false]
  · obtain ⟨h0, h1⟩ := index_ne_of_one_lt h
    change s.readTable 4 index = _
    simp only [State.readTable, h0, h1, if_false]

/-- A part of the limits table that is absent is not read (R163). -/
theorem State.readTable_noLimits (h : index = 0 ∧ s.working.limitsSpeed = none ∨ index = 1 ∧ s.working.limitsFlow = none) :
    s.readTable 4 index = .error .noLimits := by
  rcases h with ⟨rfl, h⟩ | ⟨rfl, h⟩ <;> simp [State.readTable, h]

end

/-! ### The words of a record -/

theorem word_flag (b : Bool) : word b.toNat = if b then 1 else 0 := by cases b <;> rfl

theorem word_optionalTable (o : Option TableId) :
    word ((o.map fun t => t.val).getD 255) = match o with | some t => word t.val | none => 255 := by cases o <;> rfl

theorem word_segIndex (i : SegIndex) :
    word (segIndexCode (some i)) = match i with | .seg m => word m.val | .atEnd => 8 := by cases i <;> rfl

theorem word_endAction (a : EndAction) : word a.code = match a with | .stay => 0 | .handback => 1 := by cases a <;> rfl

/-- One zone of four by its number. -/
theorem Zones.at_eq {α : Type} (a : Zones α) (z : Fin 4) :
    Zones.at a z.val = match z with | 0 => a.z1 | 1 => a.z2 | 2 => a.z3 | 3 => a.z4 := by
  fin_cases z <;> rfl

/-- The words of a segment record, by the presence of its override and its next (R29, R30). -/
theorem Segment.words_eq (g : Segment) : g.words = [if g.used then 1 else 0, word g.target, word g.rate, word g.minDwell,
    if g.confirm then 1 else 0, match g.cooling with | some t => word t.val | none => 255,
    match g.next with | .seg m => word m.val | .atEnd => 8] := by
  rw [Segment.words, word_flag, word_flag, word_optionalTable, word_segIndex]

/-- The words of a profile record (R28, R30). -/
theorem Profile.words_eq (r : Profile) : r.words = [if r.valid then 1 else 0, word r.first.val, word r.cooling.val,
    word r.holdBand, word r.releaseBand, word r.tripBand, word r.tripCount, word r.reentry.val,
    match r.endAction with | .stay => 0 | .handback => 1, word r.tag] := by
  rw [Profile.words, word_flag, word_endAction]

/-- The words of part 1 of the plant table, by the presence of the global table (R162). -/
theorem Plant.words_part1 (pl : Plant) : pl.words true = [word pl.lossWindow, word pl.frozenCount, word pl.clearCount,
    word pl.lossSubstitute, match pl.globalTable with | some t => word t.val | none => 255] := by
  rw [Plant.words, word_optionalTable]

/-- Settles O47: what a read answers for each kind and part, and the words of each record. -/
theorem tableReadReplies : Obligations.TableReadReplies := by
  intro s q kind index ha go
  have reads : ∀ {kind index : Word} {ws ws' : List Word}, s.readTable kind.toNat index = .ok ws → ws = ws' →
      exec (.tableRead q kind index) s = .next (s.reply 26 q .ok ws') := fun h e => e ▸ exec_tableRead_ok ha h
  refine ⟨fun ws h => reads h rfl, fun h => exec_tableRead_error ha (s.readTable_range h), ?_, ?_, ?_, ?_, ⟨?_, ?_⟩, ?_, ?_⟩
  · rintro rfl h
    exact exec_tableRead_error ha (State.readTable_noLimits h)
  · rintro p n rfl h g
    exact ⟨s.readTable_segment h, reads (kind := 0) (s.readTable_segment h) (Segment.words_eq _)⟩
  · rintro p rfl h r
    exact reads (kind := 1) (s.readTable_profile h) (Profile.words_eq _)
  · rintro t z rfl h zones c
    refine reads (kind := 2) (s.readTable_cooling h) ?_
    have zone : Zones.at (s.working.tables[t]).zones z.val = c := Zones.at_eq _ z
    rw [word_flag, zone]
  · rintro rfl rfl
    exact reads (kind := 3) s.readTable_plant.1 rfl
  · rintro rfl rfl
    exact reads (kind := 3) s.readTable_plant.2 (Plant.words_part1 _)
  · rintro l rfl rfl h
    exact reads (kind := 4) (State.readTable_limits0 h) rfl
  · rintro l rfl rfl h
    exact reads (kind := 4) (State.readTable_limits1 h) rfl

/-! ### A read after a write -/

@[simp] theorem Zones.at_put {α : Type} (a : Zones α) (z : Fin 4) (v : α) : Zones.at (Zones.put a z.val v) z.val = v := by
  fin_cases z <;> rfl

section
variable {s t : State} {index : Word} {fields d : List Word}

theorem writeSegmentBody_read (h : writeSegmentBody index fields s = .ok (t, d)) : t.readTable 0 index = .ok fields := by
  by_cases hidx : index.toNat / 8 < 32
  · obtain ⟨p, n, hidx⟩ : ∃ (p : ProfileId) (n : Fin 8), index.toNat = 8 * p.val + n.val :=
      ⟨⟨_, hidx⟩, _, segmentAddress_segment rfl⟩
    rw [writeSegmentBody_eq hidx] at h
    obtain ⟨-, -, -, -, i, hi, rfl⟩ := State.writeTable_ok h
    obtain ⟨g, hg, hput⟩ := Option.bind_eq_some_iff.mp hi
    rw [Image.putSegment_eq] at hput
    split at hput
    · cases hput
      rw [State.readTable_segment _ hidx, ← readSegment_words hg]
      simp [Image.segment]
    · cases hput
  · rw [writeSegmentBody_off (by omega)] at h
    obtain ⟨-, -, -, -, i, hi, -⟩ := State.writeTable_ok h
    cases hi

theorem writeProfileBody_read (h : writeProfileBody index fields s = .ok (t, d)) : t.readTable 1 index = .ok fields := by
  by_cases hidx : index.toNat < 32
  · have hidx : index.toNat = (⟨_, hidx⟩ : ProfileId).val := rfl
    rw [writeProfileBody_eq hidx] at h
    obtain ⟨-, -, -, -, i, hi, rfl⟩ := State.writeTable_ok h
    obtain ⟨r, hr, hput⟩ := Option.bind_eq_some_iff.mp hi
    unfold Image.putProfile at hput
    split at hput
    · cases hput
      rw [State.readTable_profile _ hidx, ← readProfile_words hr]
      simp [Image.profile]
    · cases hput
  · rw [writeProfileBody_off (by omega)] at h
    obtain ⟨-, -, -, -, i, hi, -⟩ := State.writeTable_ok h
    cases hi

theorem writeCoolingBody_read (h : writeCoolingBody index fields s = .ok (t, d)) : t.readTable 2 index = .ok fields := by
  by_cases hidx : index.toNat / 4 < 16
  · obtain ⟨n, z, hidx⟩ : ∃ (n : TableId) (z : Fin 4), index.toNat = 4 * n.val + z.val :=
      ⟨⟨_, hidx⟩, _, coolingAddress_zone rfl⟩
    rw [writeCoolingBody_eq hidx] at h
    obtain ⟨-, -, -, -, i, hi, rfl⟩ := State.writeTable_ok h
    obtain ⟨⟨valid, c⟩, hc, hput⟩ := Option.bind_eq_some_iff.mp hi
    rw [State.putCooling_eq] at hput
    split at hput
    · cases hput
    · cases hput
      rw [State.readTable_cooling _ hidx, readCooling_words hc]
      simp only [Fin.getElem_fin, Vector.getElem_set_self, Zones.at_put]
  · rw [writeCoolingBody_off (by omega)] at h
    obtain ⟨-, -, -, -, i, hi, -⟩ := State.writeTable_ok h
    cases hi

theorem writePlantBody_read (h : writePlantBody index fields s = .ok (t, d)) : t.readTable 3 index = .ok fields := by
  obtain ⟨-, -, -, -, i, hi, rfl⟩ := State.writeTable_ok h
  unfold Image.putPlant at hi
  split at hi
  · next h0 =>
    subst h0
    obtain ⟨pl, hpl, rfl⟩ := Option.map_eq_some_iff.mp hi
    exact (State.readTable_plant _).1.trans (congrArg _ (readPlant0_words hpl))
  · split at hi
    · next h1 =>
      subst h1
      obtain ⟨pl, hpl, rfl⟩ := Option.map_eq_some_iff.mp hi
      exact (State.readTable_plant _).2.trans (congrArg _ (readPlant1_words hpl))
    · cases hi

theorem writeLimitsBody_read (h : writeLimitsBody index fields s = .ok (t, d)) : t.readTable 4 index = .ok fields := by
  obtain ⟨-, -, -, -, i, hi, rfl⟩ := State.writeTable_ok h
  unfold Image.putLimits at hi
  split at hi
  · next h0 =>
    subst h0
    obtain ⟨l, hl, rfl⟩ := Option.map_eq_some_iff.mp hi
    exact (State.readTable_limits0 rfl).trans (congrArg _ (readLimits0_words hl))
  · split at hi
    · next h1 =>
      subst h1
      obtain ⟨l, hl, rfl⟩ := Option.map_eq_some_iff.mp hi
      exact (State.readTable_limits1 rfl).trans (congrArg _ (readLimits1_words hl))
    · cases hi

end

/-- Settles O48: the record that a write leaves has the words it was read from. -/
theorem writeThenReadReturnsTheFields : Obligations.WriteThenReadReturnsTheFields := by
  intro s t q index fields ha
  exact ⟨fun h => exec_tableRead_ok ha (writeSegmentBody_read h), fun h => exec_tableRead_ok ha (writeProfileBody_read h),
    fun h => exec_tableRead_ok ha (writeCoolingBody_read h), fun h => exec_tableRead_ok ha (writePlantBody_read h),
    fun h => exec_tableRead_ok ha (writeLimitsBody_read h)⟩

end Sys2Proof.Machine

/-! The images stay valid, and running strands stay in used segments of valid profiles. -/

namespace Sys2Proof.Machine

/-! ## One strand under an image -/

/-- A running strand has a valid profile of the image, and is in a used segment of it or at END (R35). -/
def Strand.routed (i : Image) (x : Strand) : Prop :=
  ∀ p, x.ctx.running = true → x.ctx.profile = some p →
    (i.profile p).valid = true ∧ ∀ n, x.ctx.segment = some (.seg n) → (i.segment p n).used = true

theorem State.runsSound_iff (s : State) : s.runsSound ↔ ∀ k, (s.strand k).routed s.working := Iff.rfl

/-- In a sound image a valid profile begins and re-enters in used segments, and a used segment leads to a used one (R32). -/
theorem Image.used_of_sound {i : Image} (hi : i.sound) {p : ProfileId} (hv : (i.profile p).valid = true) :
    (i.segment p (i.profile p).first).used = true ∧ (i.segment p (i.profile p).reentry).used = true
      ∧ ∀ n n', (i.segment p n).used = true → (i.segment p n).next = .seg n' → (i.segment p n').used = true := by
  obtain ⟨-, -, h⟩ := (profileOk_iff _ _ _).mp (hi.1 p)
  obtain ⟨hfirst, hreentry, -, hsegs⟩ := h hv
  exact ⟨hfirst, hreentry, fun n n' hu hn => (hsegs n hu).1 n' hn⟩

section
variable {i : Image} {x y : Strand}

theorem Strand.routed_idle (h : x.ctx.running = false) : x.routed i := by
  intro p hr
  rw [h] at hr; cases hr

/-- What the route depends on: whether the strand runs, its profile and its segment. -/
theorem Strand.routed_of (hx : x.routed i) (hr : y.ctx.running = x.ctx.running) (hp : y.ctx.profile = x.ctx.profile)
    (hs : y.ctx.segment = x.ctx.segment) : y.routed i := by
  unfold Strand.routed
  rw [hr, hp, hs]
  exact hx

/-- The record of the run is all that the route reads of an image. -/
theorem Strand.routed_image {j : Image} (hx : x.routed i) (h : ∀ p, x.ctx.running = true → x.ctx.profile = some p →
    j.profile p = i.profile p ∧ ∀ n, j.segment p n = i.segment p n) : x.routed j := by
  intro p hr hp
  obtain ⟨h1, h2⟩ := h p hr hp
  simp only [h1, h2]
  exact hx p hr hp

/-- A strand that enters a segment of its profile is on its route where that segment is used. -/
theorem Strand.routed_enter (hx : x.routed i) {n : Fin 8} (hr : y.ctx.running = x.ctx.running)
    (hp : y.ctx.profile = x.ctx.profile) (hs : y.ctx.segment = some (.seg n))
    (hn : ∀ p, x.ctx.profile = some p → (i.profile p).valid = true → x.ctx.running = true → (i.segment p n).used = true) :
    y.routed i := by
  intro p hrun hprof
  rw [hr] at hrun
  rw [hp] at hprof
  obtain ⟨hv, -⟩ := hx p hrun hprof
  refine ⟨hv, fun m hm => ?_⟩
  rw [hs] at hm
  cases hm
  exact hn p hprof hv hrun

/-- Every move keeps a strand on its route under a sound image (R36, R37, R43, R112). -/
theorem Strand.Move.routed (hi : i.sound) (h : Strand.Move i x y) (hx : x.routed i) : y.routed i := by
  cases h with
  | add r => exact Strand.routed_of hx (by simp) (by rw [Context.addReason_eq]) (by rw [Context.addReason_eq])
  | remove => exact Strand.routed_of hx (by simp) (by rw [Context.removeReason_eq]) (by rw [Context.removeReason_eq])
  | note c h hc => exact Strand.routed_of hx (Context.running_congr (by rw [hc])) (by rw [hc]) (by rw [hc])
  | enter p n hp hn =>
    refine Strand.routed_enter hx rfl rfl rfl fun q hq hv hr => ?_
    cases hp.symm.trans hq
    obtain ⟨-, hreentry, hnext⟩ := Image.used_of_sound hi hv
    rcases hn with rfl | ⟨m, hm, hn⟩
    · exact hreentry
    · exact hnext m n ((hx p hr hp).2 m hm) hn
  | finish => exact fun p hr hp => ⟨(hx p hr hp).1, nofun⟩
  | trip => exact Strand.routed_idle rfl
  | leave => exact Strand.routed_idle rfl
  | handback => exact Strand.routed_idle rfl
  | untrack => exact Strand.routed_idle rfl
  | silence => unfold Strand.countSilence; split <;> exact hx
  | _ => exact hx

theorem Strand.Moves.routed (hi : i.sound) (h : Strand.Moves i x y) (hx : x.routed i) : y.routed i :=
  Strand.Moves.keeps (fun _ _ => Strand.Move.routed hi) h hx

end

/-! ## The store and the runs together -/

/-- The images, the pins and the runs are sound: what the Profile Store answers for (R32 to R35, R49 to R51, R162). -/
def State.storeSound (s : State) : Prop := s.imagesSound ∧ s.runsSound

/-- The areas of the store: images, one-time area and store operation. -/
def State.areas (s : State) : Image × Option Image × Option Limits × StoreOp := (s.working, s.stored, s.oneTime, s.op)

theorem State.areas_frame (s : State) : s.frame.areas = s.areas := rfl

/-- From s to t the strands move under the tables of s, and the store stays as it is. -/
structure State.drives (s t : State) : Prop where
  strands : ∀ k, Strand.Moves s.working (s.strand k) (t.strand k)
  areas : t.areas = s.areas

/-- What soundness of the areas asks, with the pins apart. -/
theorem State.imagesSound_of_areas {s t : State} (h : t.areas = s.areas) (hp : ∀ k, (t.strand k).pin = (s.strand k).pin)
    (hs : s.imagesSound) : t.imagesSound := by
  obtain ⟨hw, hst, hone, hop⟩ : t.working = s.working ∧ t.stored = s.stored ∧ t.oneTime = s.oneTime ∧ t.op = s.op := by
    simpa [State.areas] using h
  unfold State.imagesSound
  simp only [hw, hst, hone, hop, hp]
  exact hs

section
variable {s t u : State}

theorem State.drives.working (h : s.drives t) : t.working = s.working := congrArg Prod.fst h.areas

theorem State.drives_of_strands (hs : t.strands = s.strands) (ha : t.areas = s.areas) : s.drives t :=
  ⟨fun k => by rw [State.strand_of_strands hs k], ha⟩

theorem State.drives.trans (h : s.drives t) (g : t.drives u) : s.drives u :=
  ⟨fun k => (h.strands k).trans (h.working ▸ g.strands k), g.areas.trans h.areas⟩

theorem State.moves.drives (h : s.moves t) : s.drives t :=
  ⟨h.strands, by rw [← t.areas_frame, h.frame, s.areas_frame]⟩

theorem State.drives.storeSound (h : s.drives t) (hs : s.storeSound) : t.storeSound := by
  obtain ⟨himg, hrun⟩ := hs
  refine ⟨State.imagesSound_of_areas h.areas (fun k => (h.strands k).pin) himg, t.runsSound_iff.mpr fun k => ?_⟩
  rw [h.working]
  exact (h.strands k).routed himg.1 (s.runsSound_iff.mp hrun k)

theorem State.moves.storeSound (h : s.moves t) (hs : s.storeSound) : t.storeSound := h.drives.storeSound hs

/-- A change that reaches neither the strands nor the store. -/
theorem State.storeSound_of_same (hs : t.strands = s.strands) (ha : t.areas = s.areas) : s.storeSound → t.storeSound :=
  (State.drives_of_strands hs ha).storeSound

/-- A new working image: sound, with the records of the runs and the pinned tables as they were. -/
theorem State.storeSound_working {i : Image} (hs : s.storeSound) (hi : i.sound)
    (hrec : ∀ p, s.profileInUse p = true → i.profile p = s.working.profile p ∧ ∀ n, i.segment p n = s.working.segment p n)
    (hpin : ∀ k n, (s.strand k).pin = some n → (s.working.tables[n]).valid = true → (i.tables[n]).valid = true) :
    { s with working := i }.storeSound := by
  obtain ⟨⟨-, hst, hop, hone, hlock, hpins⟩, hrun⟩ := hs
  refine ⟨⟨hi, hst, hop, hone, hlock, fun k n hk => hpin k n hk (hpins k n hk)⟩, fun k => ?_⟩
  refine Strand.routed_image (i := s.working) (hrun k) fun p hr hp => hrec p ?_
  exact List.any_eq_true.mpr ⟨k, mem_strandIds k, decide_eq_true ⟨hr, hp⟩⟩

/-- A new configuration within its ranges. -/
theorem State.storeSound_setConfig {f : StoredConfig → StoredConfig}
    (hf : s.working.config.sound → (f s.working.config).sound) (hs : s.storeSound) : (s.setConfig f).storeSound := by
  obtain ⟨hprof, hglob, hplant, hconf, hlim⟩ := hs.1.1
  exact State.storeSound_working hs ⟨hprof, hglob, hplant, hf hconf, hlim⟩ (fun _ _ => ⟨rfl, fun _ => rfl⟩) fun _ _ _ => id

/-- One strand changes, and neither its pin nor the store: it keeps on its route. -/
theorem State.storeSound_upd {k : StrandId} {f : Strand → Strand} (hp : (f (s.strand k)).pin = (s.strand k).pin)
    (hf : s.working.sound → (s.strand k).routed s.working → (f (s.strand k)).routed s.working) (hs : s.storeSound) :
    (s.upd k f).storeSound := by
  obtain ⟨himg, hrun⟩ := hs
  refine ⟨State.imagesSound_of_areas (s := s) rfl (fun j => ?_) himg, State.upd_all (P := Strand.routed s.working) hrun (hf himg.1)⟩
  rw [State.strand_upd]
  split
  · next hj => rw [hp, hj]
  · rfl

end

/-! ## Requests -/

section
variable {s t : State} {d : List Word}

/-- A request keeps the store sound where its owning rule does. -/
theorem State.answer_storeSound (code : Word) (q : ReqHead) {body : State → Answer}
    (h : ∀ t d, body s = .ok (t, d) → s.storeSound → t.storeSound) (hs : s.storeSound) :
    (s.answer code q body).storeSound := by
  rcases State.answer_cases s code q body with ⟨-, e⟩ | ⟨-, -, e⟩ | ⟨-, -, ⟨r, -, e⟩ | ⟨t, d, hb, e⟩⟩ <;> rw [e]
  · exact hs
  · exact (State.reply_moves _ _ _ _ s).storeSound hs
  · exact (State.reply_moves _ _ _ _ s).storeSound hs
  · exact (State.reply_moves _ _ _ _ t).storeSound (h t d hb hs)

theorem State.answerSized_storeSound (code : Word) (q : ReqHead) (ok : Bool) {body : State → Answer}
    (h : ∀ t d, body s = .ok (t, d) → s.storeSound → t.storeSound) (hs : s.storeSound) :
    (s.answerSized code q ok body).storeSound := by
  unfold State.answerSized
  split
  · exact hs
  · split
    · exact State.answer_storeSound code q h hs
    · exact ((State.count_moves _ s).trans (State.reply_moves _ _ _ _ _)).storeSound hs

theorem State.strandRequest_storeSound (code : Word) (q : ReqHead) (w : Word) {body : StrandId → State → Answer}
    (h : ∀ k t d, body k s = .ok (t, d) → s.storeSound → t.storeSound) (hs : s.storeSound) :
    (s.answer code q (State.strandRequest w body)).storeSound :=
  State.answer_storeSound code q (fun t d hb => have ⟨k, _, hb⟩ := State.strandRequest_ok hb; h k t d hb) hs

/-! ### Strand requests -/

theorem trackBody_storeSound {k : StrandId} (h : trackBody k s = .ok (t, d)) : s.storeSound → t.storeSound := by
  unfold trackBody at h
  split at h
  · cases h; exact State.storeSound_upd rfl fun _ _ => Strand.routed_idle rfl
  · cases h

theorem untrackBody_storeSound {k : StrandId} (h : untrackBody k s = .ok (t, d)) : s.storeSound → t.storeSound := by
  unfold untrackBody at h
  split at h
  · cases h; exact State.storeSound_upd rfl fun _ _ => Strand.routed_idle rfl
  · cases h

/-- START enters the first segment of a valid profile (R9, R36). -/
theorem startBody_storeSound {p sh : Word} {k : StrandId} (h : startBody p sh k s = .ok (t, d)) :
    s.storeSound → t.storeSound := by
  obtain ⟨n, v, lim, -, -, hlim, hp, -, rfl⟩ := startBody_ok h
  have hv := (State.validProfile_eq_some.mp hp).2
  rw [State.beginRun_eq k n _ v hlim]
  refine State.storeSound_upd rfl fun hi _ p _ hp => ?_
  cases hp
  exact ⟨hv, fun m hm => by cases hm; exact (Image.used_of_sound hi hv).1⟩

theorem holdBody_storeSound {k : StrandId} (h : holdBody k s = .ok (t, d)) : s.storeSound → t.storeSound := by
  unfold holdBody at h
  split at h
  · cases h; exact (State.moves_updCtx s k _ (Strand.Move.add _ _).moves).storeSound
  · cases h

theorem releaseBody_storeSound {k : StrandId} (h : releaseBody k s = .ok (t, d)) : s.storeSound → t.storeSound := by
  unfold releaseBody at h
  split at h
  · cases h
    refine State.storeSound_upd rfl fun _ hx => Strand.routed_of hx (by simp) ?_ ?_ <;> rw [Context.removeReason_eq]
  · cases h

theorem clearTripBody_storeSound {k : StrandId} (h : clearTripBody k s = .ok (t, d)) : s.storeSound → t.storeSound := by
  unfold clearTripBody at h
  split at h
  · cases h; exact State.storeSound_upd rfl fun _ _ => Strand.routed_idle rfl
  · cases h

/-- A pin names a valid table (R51). -/
theorem State.storeSound_pin {k : StrandId} {o : Option TableId} (ho : ∀ n, o = some n → (s.working.tables[n]).valid = true)
    (hs : s.storeSound) : (s.upd k fun x => { x with pin := o }).storeSound := by
  obtain ⟨⟨hw, hst, hop, hone, hlock, hpins⟩, hrun⟩ := hs
  refine ⟨⟨hw, hst, hop, hone, hlock, ?_⟩, State.upd_all (P := Strand.routed s.working) hrun id⟩
  exact State.upd_all (P := fun x => ∀ n, x.pin = some n → (s.working.tables[n]).valid = true) hpins fun _ => ho

theorem coolPinBody_storeSound {w : Word} {k : StrandId} (h : coolPinBody w k s = .ok (t, d)) :
    s.storeSound → t.storeSound := by
  unfold coolPinBody at h
  split at h
  · cases h
  · cases h; exact State.storeSound_pin nofun
  · split at h
    · next hv => cases h; exact State.storeSound_pin fun m hm => by cases hm; exact hv
    · cases h

theorem handbackBody_storeSound {k : StrandId} (h : handbackBody k s = .ok (t, d)) : s.storeSound → t.storeSound := by
  unfold handbackBody at h
  split at h
  · cases h
  · next hr =>
    split at h
    · cases h
    · next he => cases h; exact (State.leaveByHandback_moves k s (by simpa using hr) (by simpa using he)).storeSound

/-! ### Requests to the coordinator and the Beat Unit -/

theorem changeBeginBody_storeSound (h : changeBeginBody s = .ok (t, d)) : s.storeSound → t.storeSound := by
  unfold changeBeginBody at h
  dsimp only at h
  split at h
  · cases h
  · split at h
    · cases h
    · split at h
      · cases h
      · cases h
        refine (State.moves.moveChange ?_ _).storeSound
        refine (State.moves_change s s.change 0 s.swapCount).trans
          (forStrands_moves_own _ (strandIds_nodup.filter _) _ _ fun k hk u _ e => State.enroll_moves k u ?_)
        rw [State.ctx, e]
        exact (List.mem_filter.mp hk).2

theorem changeCancelBody_storeSound (h : changeCancelBody s = .ok (t, d)) : s.storeSound → t.storeSound := by
  unfold changeCancelBody at h
  split at h <;> cases h
  · exact (State.cancelLowering_moves s).storeSound
  · exact (State.releaseChange_moves s).storeSound

theorem swapConfirmBody_storeSound (h : swapConfirmBody s = .ok (t, d)) : s.storeSound → t.storeSound := by
  unfold swapConfirmBody at h
  split at h <;> cases h
  exact (State.releaseChange_moves s).storeSound

theorem setArbiterBody_storeSound {m : Word} {pr : Vector Word 8} (h : setArbiterBody m pr s = .ok (t, d)) :
    s.storeSound → t.storeSound := by
  unfold setArbiterBody at h
  split at h
  · cases h
  · split at h
    · cases h
    · split at h
      · cases h
      · next hpr =>
        have low : ∀ k : StrandId, (pr[k]).toNat ≤ 3 := fun k => by
          have := List.any_eq_false.mp (Bool.eq_false_iff.mpr hpr) k (mem_strandIds k)
          simpa using this
        cases h
        refine State.storeSound_setConfig fun ⟨h1, h2, h3, _, h5⟩ => ⟨h1, h2, h3, fun k => ?_, h5⟩
        have := low k
        revert this
        fin_cases k <;> exact id

theorem sourceSelectBody_storeSound {n keep : Word} (h : sourceSelectBody n keep s = .ok (t, d)) :
    s.storeSound → t.storeSound := by
  have kept : ∀ (b : Bool) (src : Source), s.storeSound →
      (if b then s.setConfig fun c => { c with startSource := src } else s).storeSound := fun b src hs => by
    split
    · exact State.storeSound_setConfig id hs
    · exact hs
  intro hs
  unfold sourceSelectBody at h
  split at h
  · cases h
  · split at h
    · split at h
      · cases h
      · dsimp only at h
        split at h
        · cases h; exact kept _ _ hs
        · cases h; exact State.storeSound_of_same rfl rfl (kept _ _ hs)
    · cases h

theorem sourceCancelBody_storeSound (h : sourceCancelBody s = .ok (t, d)) : s.storeSound → t.storeSound := by
  unfold sourceCancelBody at h
  split at h <;> cases h
  exact State.storeSound_of_same rfl rfl

theorem setBeatPeriodBody_storeSound {p : Word} {n : Nat} (h : setBeatPeriodBody p n s = .ok (t, d)) :
    s.storeSound → t.storeSound := by
  unfold setBeatPeriodBody at h
  split at h
  · cases h
  · split at h
    · cases h
    · split at h
      · cases h
      · split at h
        · cases h
        · next period hperiod =>
          obtain ⟨-, hlo, hhi⟩ := rangeWord_eq_some.mp hperiod
          cases h
          intro hs
          refine State.storeSound_of_same (s := s.setConfig fun c => { c with period }) rfl rfl (State.storeSound_setConfig ?_ hs)
          exact fun ⟨h1, h2, h3, h4, _, _, h7⟩ => ⟨h1, h2, h3, h4, hlo, hhi, h7⟩

theorem State.clearFail_drives (s : State) : s.drives s.clearFail :=
  (State.drives_of_strands (s := s) (t := { s with fail := false }) rfl rfl).trans (State.clearFail_moves s).drives

theorem failClearBody_storeSound (h : failClearBody s = .ok (t, d)) : s.storeSound → t.storeSound := by
  unfold failClearBody at h
  split at h <;> cases h
  split
  · exact s.clearFail_drives.storeSound
  · exact id

/-! ### Requests to the line -/

theorem setNodeBody_storeSound {n : Word} (h : setNodeBody n s = .ok (t, d)) : s.storeSound → t.storeSound := by
  unfold setNodeBody at h
  split at h
  · cases h
  · split at h
    · cases h
    · next v hv =>
      obtain ⟨-, hlo, hhi⟩ := rangeWord_eq_some.mp hv
      dsimp only at h
      split at h
      · cases h; exact id
      · cases h
        intro hs
        refine State.storeSound_of_same (s := s.setConfig fun c => { c with node := BitVec.ofNat 8 v }) rfl rfl
          (State.storeSound_setConfig ?_ hs)
        refine fun ⟨_, _, h3⟩ => ⟨?_, ?_, h3⟩ <;>
        · intro e
          have := congrArg BitVec.toNat e
          simp at this
          omega

theorem State.clearInputs_storeSound (l : List StrandId) (hs : s.storeSound) :
    (forStrands l (fun k s => s.upd k fun x => { x with input := {} }) s).storeSound :=
  forStrands_induct State.storeSound l _ (fun _ _ _ => State.storeSound_upd rfl fun _ hx => hx) s hs

theorem State.unmap_storeSound (l : List StrandId) (hs : s.storeSound) :
    (forStrands l (fun k s => s.upd k Strand.unmap) s).storeSound :=
  forStrands_induct State.storeSound l _ (fun _ _ _ => State.storeSound_upd rfl fun _ hx => hx) s hs

theorem setSlotBaseBody_storeSound {b : Word} (h : setSlotBaseBody b s = .ok (t, d)) : s.storeSound → t.storeSound := by
  unfold setSlotBaseBody at h
  split at h
  · cases h
  · split at h
    · cases h
    · split at h
      · cases h
      · next base hbase =>
        obtain ⟨-, -, hhi⟩ := rangeWord_eq_some.mp hbase
        dsimp only at h
        cases h
        intro hs
        have hbase : s.working.config.sound → { s.working.config with slotBase := some base }.sound :=
          fun ⟨h1, h2, _, h4⟩ => ⟨h1, h2, fun b hb => by cases hb; exact hhi, h4⟩
        have hunmap := State.unmap_storeSound strandIds
          (State.storeSound_setConfig (s := s) (f := fun c => { c with slotBase := some base }) hbase hs)
        generalize forStrands strandIds _ _ = u at hunmap ⊢
        exact State.storeSound_of_same rfl rfl hunmap

theorem setStrandMaskBody_storeSound {m : Word} (h : setStrandMaskBody m s = .ok (t, d)) : s.storeSound → t.storeSound := by
  unfold setStrandMaskBody at h
  split at h
  · cases h
  · split at h
    · cases h
    · next n _ =>
      dsimp only at h
      split at h
      · cases h
      · cases h
        intro hs
        have hmask := State.storeSound_setConfig (s := s) (f := fun c => { c with mask := some (BitVec.ofNat 8 n) }) id hs
        exact State.clearInputs_storeSound _ (State.unmap_storeSound _ hmask)

theorem countersReadBody_storeSound {n : Word} (h : countersReadBody n s = .ok (t, d)) : s.storeSound → t.storeSound := by
  unfold countersReadBody at h
  split at h
  · cases h
  · dsimp only at h
    split at h <;> cases h <;> split
    · exact (State.count_moves _ s).storeSound
    · exact id
    · exact (State.count_moves _ s).storeSound
    · exact id

theorem alarmPopBody_storeSound {n : Word} (h : alarmPopBody n s = .ok (t, d)) : s.storeSound → t.storeSound := by
  unfold alarmPopBody at h
  split at h <;> cases h
  exact State.storeSound_of_same rfl rfl

theorem watchBody_storeSound {n : Word} (h : watchBody n s = .ok (t, d)) : s.storeSound → t.storeSound := by
  unfold watchBody at h
  split at h
  · cases h; exact State.storeSound_of_same rfl rfl
  · split at h <;> cases h
    exact State.storeSound_of_same rfl rfl

end
end Sys2Proof.Machine

/-! Requests and resets that rewrite the images (R33 to R35, R51, R162, R167). -/

namespace Sys2Proof.Machine

/-! ## The rewritten images -/

section
variable {i j : Image}

theorem Image.segment_set (i : Image) (p q : ProfileId) (segs : Vector Segment 8) (h : q ≠ p) (n : Fin 8) :
    { i with segments := i.segments.set p segs }.segment q n = i.segment q n := by
  have : (p : Nat) ≠ q := fun e => h (Fin.ext e.symm)
  simp [Image.segment, this]

theorem Image.profile_set (i : Image) (p q : ProfileId) (r : Profile) (h : q ≠ p) :
    { i with profiles := i.profiles.set p r }.profile q = i.profile q := by
  have : (p : Nat) ≠ q := fun e => h (Fin.ext e.symm)
  simp [Image.profile, this]

/-- A segment write keeps the image sound and every other profile with its segments (R32, R33). -/
theorem Image.putSegment_sound {p : ProfileId} {n : Fin 8} {g : Segment} (hi : i.sound) (h : i.putSegment p n g = some j) :
    j.sound ∧ j.tables = i.tables ∧ ∀ q, q ≠ p → j.profile q = i.profile q ∧ ∀ n, j.segment q n = i.segment q n := by
  rw [Image.putSegment_eq] at h
  split at h
  · next hok =>
    cases h
    obtain ⟨hprof, hrest⟩ := hi
    refine ⟨⟨fun q => ?_, hrest⟩, rfl, fun q hq => ⟨rfl, i.segment_set p q _ hq⟩⟩
    by_cases hq : q = p
    · subst hq
      rw [show ((i.segments.set q (i.segments[q].set n g))[q] : Vector Segment 8) = i.segments[q].set n g by simp]
      change profileOk i.tables _ (i.profile q) = true
      cases hv : (i.profile q).valid with
      | true => exact hok hv
      | false =>
        obtain ⟨h1, h2, -⟩ := (profileOk_iff _ _ _).mp (hprof q)
        exact (profileOk_iff _ _ _).mpr ⟨h1, h2, by simp [hv]⟩
    · have hne : (p : Nat) ≠ q := fun e => hq (Fin.ext e.symm)
      rw [show ((i.segments.set p (i.segments[p].set n g))[q] : Vector Segment 8) = i.segments[q] by simp [hne]]
      exact hprof q
  · cases h

/-- A profile write keeps the image sound and every other profile (R32). -/
theorem Image.putProfile_sound {p : ProfileId} {r : Profile} (hi : i.sound) (h : i.putProfile p r = some j) :
    j.sound ∧ j.tables = i.tables ∧ ∀ q, q ≠ p → j.profile q = i.profile q ∧ ∀ n, j.segment q n = i.segment q n := by
  unfold Image.putProfile at h
  split at h
  · next hok =>
    cases h
    obtain ⟨hprof, hrest⟩ := hi
    refine ⟨⟨fun q => ?_, hrest⟩, rfl, fun q hq => ⟨i.profile_set p q r hq, fun _ => rfl⟩⟩
    by_cases hq : q = p
    · subst hq
      have hr : ({ i with profiles := i.profiles.set q r } : Image).profile q = r := by simp [Image.profile]
      rw [hr]
      exact hok
    · rw [i.profile_set p q r hq]
      exact hprof q
  · cases h

/-- A cooling write keeps the image sound, and valid every table that was valid and is named (R34, R49). -/
theorem State.putCooling_sound {s : State} {n : TableId} {z : Nat} {w : Bool × CoolZone} (hi : s.working.sound)
    (h : s.putCooling n z w = some j) :
    j.sound ∧ j.profiles = s.working.profiles ∧ j.segments = s.working.segments
      ∧ ∀ m, s.tableNamed m = true → (s.working.tables[m]).valid = true → (j.tables[m]).valid = true := by
  obtain ⟨valid, c⟩ := w
  rw [State.putCooling_eq] at h
  split at h
  · cases h
  · next hnot =>
    cases h
    have kept : ∀ m : TableId, s.tableNamed m = true → (s.working.tables[m]).valid = true →
        ((s.working.tables.set n { valid, zones := Zones.put (s.working.tables[n]).zones z c })[m]).valid = true := by
      intro m hm hv
      by_cases hmn : m = n
      · subst hmn
        cases valid with
        | true => simp
        | false => exact absurd ⟨rfl, hv, hm⟩ hnot
      · have : (n : Nat) ≠ m := fun e => hmn (Fin.ext e.symm)
        simpa [this] using hv
    obtain ⟨hprof, hglob, hrest⟩ := hi
    refine ⟨⟨fun p => ?_, fun m hm => ?_, hrest⟩, rfl, rfl, kept⟩
    · obtain ⟨h1, h2, h3⟩ := (profileOk_iff _ _ _).mp (hprof p)
      refine (profileOk_iff _ _ _).mpr ⟨h1, h2, fun hv => ?_⟩
      obtain ⟨hfirst, hre, hcool, hsegs⟩ := h3 hv
      refine ⟨hfirst, hre, kept _ ((s.tableNamed_iff _).mpr (.inl ⟨p, hv, .inl rfl⟩)) hcool, fun m hu => ?_⟩
      obtain ⟨hnext, hover⟩ := hsegs m hu
      exact ⟨hnext, fun t ht => kept t ((s.tableNamed_iff _).mpr (.inl ⟨p, hv, .inr ⟨m, hu, ht⟩⟩)) (hover t ht)⟩
    · exact kept m ((s.tableNamed_iff _).mpr (.inr (.inl hm))) (hglob m hm)

/-- Part 0 of the plant table is read within its ranges (R162). -/
theorem readPlant0_sound {pl pl' : Plant} {fields : List Word} (hp : pl.sound) (h : readPlant0 pl fields = some pl') :
    pl'.sound ∧ pl'.globalTable = pl.globalTable := by
  obtain ⟨-, -, -, -, -, -, -, -, -, -, -, -, h13, h14, h15, h16⟩ := hp
  unfold readPlant0 at h
  split at h
  · split at h
    · next h1 h2 h3 h4 h5 h6 h7 h8 h9 h10 =>
      split at h
      · next hle =>
        rw [rangeWord_eq_some] at h1 h2 h3 h4 h5 h6 h7 h8 h9 h10
        cases h
        refine ⟨?_, rfl⟩
        unfold Plant.sound
        dsimp only
        omega
      · cases h
    · cases h
  · cases h

/-- Part 1 of the plant table is read within its ranges, its global table valid (R162). -/
theorem readPlant1_sound {tables : Vector CoolTable 16} {pl pl' : Plant} {fields : List Word} (hp : pl.sound)
    (h : readPlant1 tables pl fields = some pl') :
    pl'.sound ∧ ∀ n, pl'.globalTable = some n → (tables[n]).valid = true := by
  obtain ⟨h1, h2, h3, h4, h5, h6, h7, h8, h9, h10, h11, h12, -⟩ := hp
  unfold readPlant1 at h
  split at h
  · split at h
    · next g1 g2 g3 g4 =>
      split at h
      · next hall =>
        rw [rangeWord_eq_some] at g1 g2 g3
        cases h
        refine ⟨⟨h1, h2, h3, h4, h5, h6, h7, h8, h9, h10, h11, h12, ?_⟩, fun n hn => ?_⟩
        · dsimp only; omega
        · dsimp only at hn
          rw [hn] at hall
          exact hall
      · cases h
    · cases h
  · cases h

/-- A plant write keeps the image sound (R162). -/
theorem Image.putPlant_sound {index : Word} {fields : List Word} (hi : i.sound) (h : i.putPlant index fields = some j) :
    j.sound ∧ j.profiles = i.profiles ∧ j.segments = i.segments ∧ j.tables = i.tables := by
  obtain ⟨hprof, hglob, hplant, hrest⟩ := hi
  unfold Image.putPlant at h
  split at h
  · obtain ⟨pl, hpl, rfl⟩ := Option.map_eq_some_iff.mp h
    obtain ⟨hs, hg⟩ := readPlant0_sound hplant hpl
    exact ⟨⟨hprof, fun n hn => hglob n (hg ▸ hn), hs, hrest⟩, rfl, rfl, rfl⟩
  · split at h
    · obtain ⟨pl, hpl, rfl⟩ := Option.map_eq_some_iff.mp h
      obtain ⟨hs, hg⟩ := readPlant1_sound hplant hpl
      exact ⟨⟨hprof, hg, hs, hrest⟩, rfl, rfl, rfl⟩
    · cases h

/-- Part 0 of the limits table is read within its ranges (R162). -/
theorem readLimits0_sound {fields : List Word} {l : LimitsSpeed} (h : readLimits0 fields = some l) : l.sound := by
  unfold readLimits0 at h
  split at h
  · next reserve _ _ =>
    split at h
    · next h1 h2 h3 h4 =>
      rw [rangeWord_eq_some] at h1 h2 h3 h4
      have := reserve.isLt
      cases h
      unfold LimitsSpeed.sound
      dsimp only
      omega
    · cases h
  · cases h

/-- Part 1 of the limits table is read within its ranges (R162). -/
theorem readLimits1_sound {fields : List Word} {l : LimitsFlow} (h : readLimits1 fields = some l) : l.sound := by
  unfold readLimits1 at h
  split at h
  · split at h
    · next hz =>
      simp only [zoneLimitsOk_iff] at hz
      cases h
      exact hz
    · cases h
  · cases h

/-- A limits write keeps the image sound (R162). -/
theorem Image.putLimits_sound {index : Word} {fields : List Word} (hi : i.sound) (h : i.putLimits index fields = some j) :
    j.sound ∧ j.profiles = i.profiles ∧ j.segments = i.segments ∧ j.tables = i.tables := by
  obtain ⟨hprof, hglob, hplant, hconf, hspeed, hflow⟩ := hi
  unfold Image.putLimits at h
  split at h
  · obtain ⟨l, hl, rfl⟩ := Option.map_eq_some_iff.mp h
    exact ⟨⟨hprof, hglob, hplant, hconf, fun l' e => by cases e; exact readLimits0_sound hl, hflow⟩, rfl, rfl, rfl⟩
  · split at h
    · obtain ⟨l, hl, rfl⟩ := Option.map_eq_some_iff.mp h
      exact ⟨⟨hprof, hglob, hplant, hconf, hspeed, fun l' e => by cases e; exact readLimits1_sound hl⟩, rfl, rfl, rfl⟩
    · cases h

/-- The limits table of a sound image is in range, part by part (R162). -/
theorem Image.limits_sound {l : Limits} (hi : i.sound) (h : i.limits = some l) : l.speed.sound ∧ l.flow.sound := by
  obtain ⟨-, -, -, -, hspeed, hflow⟩ := hi
  unfold Image.limits at h
  split at h
  · next h1 h2 => cases h; exact ⟨hspeed _ h1, hflow _ h2⟩
  · cases h

end

/-! ## Requests to the store -/

section
variable {s t : State} {d : List Word} {index : Word} {fields : List Word}

/-- A write of a record that nobody runs. -/
theorem State.storeSound_record {i : Image} {p : ProfileId} (hu : s.profileInUse p = false)
    (hi : i.sound ∧ i.tables = s.working.tables
      ∧ ∀ q, q ≠ p → i.profile q = s.working.profile q ∧ ∀ n, i.segment q n = s.working.segment q n)
    (hs : s.storeSound) : { s with working := i }.storeSound := by
  obtain ⟨hsound, htab, hrec⟩ := hi
  refine State.storeSound_working hs hsound (fun q hq => hrec q ?_) fun _ n _ hv => ?_
  · rintro rfl
    rw [hu] at hq; cases hq
  · rw [htab]; exact hv

/-- A write that leaves profiles, segments and tables. -/
theorem State.storeSound_beside {i : Image} (hi : i.sound ∧ i.profiles = s.working.profiles
      ∧ i.segments = s.working.segments ∧ i.tables = s.working.tables) (hs : s.storeSound) :
    { s with working := i }.storeSound := by
  obtain ⟨hsound, hprof, hseg, htab⟩ := hi
  refine State.storeSound_working hs hsound (fun p _ => ?_) fun _ n _ hv => ?_
  · simp only [Image.profile, Image.segment, hprof, hseg, implies_true, and_self]
  · rw [htab]; exact hv

theorem writeSegmentBody_storeSound (h : writeSegmentBody index fields s = .ok (t, d)) (hs : s.storeSound) : t.storeSound := by
  unfold writeSegmentBody at h
  split at h
  · obtain ⟨-, hu, -, -, i, hi, rfl⟩ := State.writeTable_ok h
    obtain ⟨g, -, hg⟩ := Option.bind_eq_some_iff.mp hi
    exact State.storeSound_record hu (Image.putSegment_sound hs.1.1 hg) hs
  · obtain ⟨-, -, -, -, i, hi, -⟩ := State.writeTable_ok h
    cases hi

theorem writeProfileBody_storeSound (h : writeProfileBody index fields s = .ok (t, d)) (hs : s.storeSound) : t.storeSound := by
  unfold writeProfileBody at h
  split at h
  · obtain ⟨-, hu, -, -, i, hi, rfl⟩ := State.writeTable_ok h
    obtain ⟨r, -, hr⟩ := Option.bind_eq_some_iff.mp hi
    exact State.storeSound_record hu (Image.putProfile_sound hs.1.1 hr) hs
  · obtain ⟨-, -, -, -, i, hi, -⟩ := State.writeTable_ok h
    cases hi

theorem writeCoolingBody_storeSound (h : writeCoolingBody index fields s = .ok (t, d)) (hs : s.storeSound) : t.storeSound := by
  unfold writeCoolingBody at h
  split at h
  · obtain ⟨-, -, -, -, i, hi, rfl⟩ := State.writeTable_ok h
    obtain ⟨c, -, hc⟩ := Option.bind_eq_some_iff.mp hi
    obtain ⟨hsound, hprof, hseg, hkept⟩ := State.putCooling_sound hs.1.1 hc
    refine State.storeSound_working hs hsound (fun p _ => ?_) fun k n hk hv => ?_
    · simp only [Image.profile, Image.segment, hprof, hseg, implies_true, and_self]
    · exact hkept n ((s.tableNamed_iff n).mpr (.inr (.inr ⟨k, hk⟩))) hv
  · obtain ⟨-, -, -, -, i, hi, -⟩ := State.writeTable_ok h
    cases hi

theorem writePlantBody_storeSound (h : writePlantBody index fields s = .ok (t, d)) (hs : s.storeSound) : t.storeSound := by
  obtain ⟨-, -, -, -, i, hi, rfl⟩ := State.writeTable_ok h
  exact State.storeSound_beside (Image.putPlant_sound hs.1.1 hi) hs

theorem writeLimitsBody_storeSound (h : writeLimitsBody index fields s = .ok (t, d)) (hs : s.storeSound) : t.storeSound := by
  obtain ⟨-, -, -, -, i, hi, rfl⟩ := State.writeTable_ok h
  exact State.storeSound_beside (Image.putLimits_sound hs.1.1 hi) hs

theorem tableOpenBody_storeSound (h : tableOpenBody s = .ok (t, d)) : s.storeSound → t.storeSound := by
  unfold tableOpenBody at h
  split at h <;> cases h
  exact State.storeSound_of_same rfl rfl

theorem protectSetBody_storeSound {r c l : Word} {key : KeyPos} (h : protectSetBody r c l key s = .ok (t, d)) :
    s.storeSound → t.storeSound := by
  unfold protectSetBody at h
  split at h
  · cases h
  · split at h
    · cases h
    · split at h
      · cases h
      · split at h
        · next hr _ _ =>
          obtain ⟨-, -, hhi⟩ := rangeWord_eq_some.mp hr
          cases h
          exact State.storeSound_setConfig fun ⟨h1, h2, h3, h4, h5, h6, _⟩ => ⟨h1, h2, h3, h4, h5, h6, hhi⟩
        · cases h

/-- The image that a COMMIT writes is sound (R165). -/
theorem State.commitImage_sound (hs : s.storeSound) : s.commitImage.sound := by
  obtain ⟨⟨⟨hprof, hglob, hplant, hconf, hlim⟩, hst, -⟩, -⟩ := hs
  unfold State.commitImage
  split
  · exact ⟨hprof, hglob, hplant, hconf, hlim⟩
  · refine ⟨hprof, hglob, hplant, hconf, fun l hl => ?_, fun l hl => ?_⟩
    · obtain ⟨i, hi, hl⟩ := Option.bind_eq_some_iff.mp hl
      obtain ⟨-, -, -, -, h, -⟩ := hst i hi
      exact h l hl
    · obtain ⟨i, hi, hl⟩ := Option.bind_eq_some_iff.mp hl
      obtain ⟨-, -, -, -, -, h⟩ := hst i hi
      exact h l hl

theorem commitBody_storeSound (h : commitBody s = .ok (t, d)) (hs : s.storeSound) : t.storeSound := by
  unfold commitBody at h
  split at h
  · cases h
  · split at h
    · cases h
    · cases h
      have hc := State.commitImage_sound hs
      obtain ⟨⟨hw, hst, -, hone, -, hpins⟩, hrun⟩ := hs
      exact ⟨⟨hw, hst, fun i hi => by cases hi; exact hc, hone, nofun, hpins⟩, hrun⟩

theorem limitsLockBody_storeSound (h : limitsLockBody s = .ok (t, d)) (hs : s.storeSound) : t.storeSound := by
  unfold limitsLockBody at h
  split at h
  · cases h
  · split at h
    · cases h
    · split at h
      · cases h
      · split at h
        · cases h
        · next l hl =>
          cases h
          have hlim := Image.limits_sound hs.1.1 hl
          obtain ⟨⟨hw, hst, -, hone, -, hpins⟩, hrun⟩ := hs
          exact ⟨⟨hw, hst, nofun, hone, fun l hl => by cases hl; exact hlim, hpins⟩, hrun⟩

theorem tableReadBody_storeSound {kind : Word} (h : tableReadBody kind index s = .ok (t, d)) : s.storeSound → t.storeSound := by
  unfold tableReadBody at h
  split at h <;> cases h
  exact id

/-! ## The store's own events -/

theorem execCommitDone_storeSound (h : execCommitDone s = .next t) (hs : s.storeSound) : t.storeSound := by
  cases h
  split
  · next i hi =>
    obtain ⟨⟨hw, -, hop, hone, -, hpins⟩, hrun⟩ := hs
    refine ((State.moves.refl _).raise _ _ _).storeSound ⟨⟨hw, fun j hj => ?_, nofun, hone, nofun, hpins⟩, hrun⟩
    cases hj; exact hop i hi
  · exact hs

theorem execLockDone_storeSound (h : execLockDone s = .next t) (hs : s.storeSound) : t.storeSound := by
  cases h
  split
  · next l hl =>
    obtain ⟨⟨hw, hst, -, -, hlock, hpins⟩, hrun⟩ := hs
    refine ((State.moves.refl _).raise _ _ _).storeSound ⟨⟨hw, hst, nofun, fun j hj => ?_, nofun, hpins⟩, hrun⟩
    cases hj; exact hlock l hl
  · exact hs

/-! ## The resets and the end of the load -/

/-- The image that the load builds is sound (R167). -/
theorem State.loadedImage_sound (hs : s.imagesSound) : s.loadedImage.sound := by
  obtain ⟨-, hst, -, hone, -⟩ := hs
  have base : (if s.incomplete then defaultImage else s.stored.getD defaultImage).sound := by
    split
    · exact defaultImage_sound
    · cases hi : s.stored with
      | none => exact defaultImage_sound
      | some i => exact hst i hi
  unfold State.loadedImage
  dsimp only
  split
  · next l hl =>
    obtain ⟨hprof, hglob, hplant, hconf, -⟩ := base
    obtain ⟨hspeed, hflow⟩ := hone l hl
    exact ⟨hprof, hglob, hplant, hconf, fun l' e => by cases e; exact hspeed, fun l' e => by cases e; exact hflow⟩
  · exact base

/-- Where no strand runs and no pin is set, only the areas matter. -/
theorem State.storeSound_idle {w : Image} {st : Option Image} {one : Option Limits} {op : StoreOp}
    (ha : s.areas = (w, st, one, op)) (hw : w.sound) (hst : ∀ i, st = some i → i.sound) (hop : ∀ i, op = .commit i → i.sound)
    (hone : ∀ l, one = some l → l.speed.sound ∧ l.flow.sound) (hlock : ∀ l, op = .lock l → l.speed.sound ∧ l.flow.sound)
    (hidle : ∀ k, (s.strand k).ctx.running = false ∧ (s.strand k).pin = none) : s.storeSound := by
  obtain ⟨rfl, rfl, rfl, rfl⟩ : s.working = w ∧ s.stored = st ∧ s.oneTime = one ∧ s.op = op := by simpa [State.areas] using ha
  refine ⟨⟨hw, hst, hop, hone, hlock, fun k n hk => ?_⟩, fun k => Strand.routed_idle (hidle k).1⟩
  rw [(hidle k).2] at hk; cases hk

theorem State.warmReset_areas (s : State) : s.warmReset.areas = s.areas := by
  rw [← State.areas_frame, s.warmReset_frame]
  rfl

theorem State.endLoad_areas (s : State) (n : Nat) : (s.endLoad n).areas = (s.loadedImage, s.stored, s.oneTime, s.op) := by
  rw [← State.areas_frame, s.endLoad_frame]
  rfl

theorem State.warmReset_storeSound (hs : s.storeSound) : s.warmReset.storeSound := by
  obtain ⟨⟨hw, hst, hop, hone, hlock, -⟩, -⟩ := hs
  refine State.storeSound_idle s.warmReset_areas hw hst hop hone hlock fun k => ?_
  rw [State.warmReset_strand]
  exact ⟨rfl, rfl⟩

theorem State.powerOn_storeSound (hs : s.storeSound) : s.powerOn.storeSound := by
  obtain ⟨⟨-, hst, -, hone, -, -⟩, -⟩ := hs
  refine State.storeSound_idle rfl defaultImage_sound hst nofun hone nofun fun k => ?_
  rw [State.powerOn_strand]
  exact ⟨rfl, rfl⟩

/-- The end of the load: no strand runs and no pin is set before it (R3, R69, R167). -/
theorem State.endLoad_storeSound (n : Nat) (hload : s.loading = true) (hl : s.loadSound) (hs : s.storeSound) :
    (s.endLoad n).storeSound := by
  have hi := State.loadedImage_sound hs.1
  obtain ⟨⟨-, hst, hop, hone, hlock, -⟩, -⟩ := hs
  obtain ⟨hidle, -⟩ := hl hload
  refine State.storeSound_idle (s.endLoad_areas n) hi hst hop hone hlock fun k => ?_
  rw [State.endLoad_strand]
  exact ⟨by simp [Context.running, show (s.strand k).ctx.state = _ from (hidle k).1], (hidle k).2⟩

end
end Sys2Proof.Machine

/-! Every command keeps images, pins and runs sound together. -/

namespace Sys2Proof.Machine

/-! ## Beats and samples leave the store alone -/

section
variable {s t : State}

/-- A unit beside strands and store changes, and then strands move. -/
theorem State.drives_of_moves {u : State} (hs : u.strands = s.strands) (ha : u.areas = s.areas) (h : u.moves t) : s.drives t :=
  (State.drives_of_strands hs ha).trans h.drives

theorem State.completeSwitch_drives (src : Source) (s : State) : s.drives (s.completeSwitch src) := by
  unfold State.completeSwitch
  dsimp only
  have h1 : s.drives (State.deliverBeat { s with current := src }) := State.drives_of_moves (u := { s with current := src }) rfl rfl (State.deliverBeat_moves _)
  generalize State.deliverBeat { s with current := src } = u at h1 ⊢
  have h2 : s.drives { u with switchTo := none } := h1.trans (State.drives_of_strands rfl rfl)
  split
  · exact (h2.trans (State.clearFail_drives _)).trans ((State.moves.refl _).raise _ _ _).drives
  · exact h2.trans ((State.moves.refl _).raise _ _ _).drives

theorem State.sourceBeat_drives (src : Source) (n : Nat) (s : State) : s.drives (s.sourceBeat src n) := by
  have hm := (State.setMonitor_moves src ((s.monitor src).beat s.period n) s).trans (State.atTime_moves n _)
  unfold State.sourceBeat
  split
  · exact (State.moves.refl s).drives
  · dsimp only
    split
    · refine (hm.trans (State.moves.trans ?_ (State.deliverBeat_moves _))).drives
      split
      · exact State.count_moves _ _
      · exact .refl _
    · split
      · exact hm.drives.trans (State.completeSwitch_drives src _)
      · exact hm.drives

theorem State.localBeat_drives (s : State) : s.drives s.localBeat := by
  unfold State.localBeat
  split
  · exact (State.moves.refl s).drives
  · next n _ =>
    have h : s.drives (State.atTime { s with localNext := some (n + 1000 * s.period) } n) :=
      State.drives_of_strands rfl rfl
    dsimp only
    split
    · exact h.trans (State.deliverBeat_moves _).drives
    · split
      · exact h.trans (State.completeSwitch_drives _ _)
      · exact h

theorem State.failover_drives (src : Source) (s : State) : s.drives (s.failover src) :=
  State.drives_of_moves (u := { s with current := .localGen, fail := true, switchTo := none }) rfl rfl
    ((State.addEverywhere_moves .beat _).raise _ _ _)

theorem State.sourceSilence_drives (src : Source) (s : State) : s.drives (s.sourceSilence src) := by
  have hm := (State.setMonitor_moves src (s.monitor src).silence s).trans
    (State.atTime_moves ((s.monitor src).ref + 3000 * s.period) _)
  unfold State.sourceSilence
  dsimp only
  split
  · exact (State.moves.refl s).drives
  · split
    · exact hm.drives.trans (State.failover_drives src _)
    · exact hm.drives

theorem State.setPlantInput_drives (after : PlantInput) (s : State) : s.drives (s.setPlantInput after) :=
  State.drives_of_moves (u := { s with plantIn := after }) rfl rfl ((State.moves.refl _).raiseLoss _ _ _ _)

theorem State.takeDipFlag_drives (before now : Bool) (s : State) : s.drives (s.takeDipFlag before now) := by
  unfold State.takeDipFlag
  split
  · exact State.drives_of_moves (u := { s with dip := .dipped }) rfl rfl (State.dipBegin_moves s)
  · exact State.drives_of_moves (u := { s with dip := .normal }) rfl rfl (State.dipEnd_moves s)
  · exact (State.moves.refl s).drives

theorem State.takePlant_drives (x : PlantReading) (s : State) : s.drives (s.takePlant x) := by
  unfold State.takePlant
  split
  · exact (State.moves.refl s).drives
  · dsimp only
    split
    · exact ((State.setPlantInput_drives _ s).trans (State.takeDipFlag_drives _ _ _)).trans (State.takeWeight_moves _ _).drives
    · exact State.setPlantInput_drives _ s

theorem State.plantFrame_drives (f : Frame) (s : State) : s.drives (s.plantFrame f) := by
  unfold State.plantFrame
  split
  · split
    · exact (State.send_moves f s).drives
    · exact (State.send_moves f s).drives.trans (State.takePlant_drives _ _)
  · exact (State.send_moves f s).drives

/-! ## Every command -/

/-- A request keeps the store sound. -/
theorem State.runRequest_storeSound (i : Instr) (s : State) (hs : s.storeSound) : (s.runRequest i).storeSound := by
  cases i with
  | partReset q =>
    change State.storeSound (if s.isOwn q.origin then s else if s.loading then s.reply 22 q .busy []
      else (s.reply 22 q .ok []).warmReset)
    split
    · exact hs
    · split
      · exact (State.reply_moves _ _ _ _ s).storeSound hs
      · exact State.warmReset_storeSound ((State.reply_moves _ _ _ _ s).storeSound hs)
  | track q w => exact State.strandRequest_storeSound _ _ w (fun _ _ _ => trackBody_storeSound) hs
  | untrack q w => exact State.strandRequest_storeSound _ _ w (fun _ _ _ => untrackBody_storeSound) hs
  | start q w p sh => exact State.strandRequest_storeSound _ _ w (fun _ _ _ => startBody_storeSound) hs
  | hold q w => exact State.strandRequest_storeSound _ _ w (fun _ _ _ => holdBody_storeSound) hs
  | release q w => exact State.strandRequest_storeSound _ _ w (fun _ _ _ => releaseBody_storeSound) hs
  | clearTrip q w => exact State.strandRequest_storeSound _ _ w (fun _ _ _ => clearTripBody_storeSound) hs
  | readContext q w => exact State.strandRequest_storeSound _ _ w (fun _ _ _ h => by cases h; exact id) hs
  | setArbiter q m pr => exact State.answer_storeSound _ _ (fun _ _ => setArbiterBody_storeSound) hs
  | coolPin q w t => exact State.strandRequest_storeSound _ _ w (fun _ _ _ => coolPinBody_storeSound) hs
  | changeBegin q => exact State.answer_storeSound _ _ (fun _ _ => changeBeginBody_storeSound) hs
  | changeCancel q => exact State.answer_storeSound _ _ (fun _ _ => changeCancelBody_storeSound) hs
  | swapConfirm q => exact State.answer_storeSound _ _ (fun _ _ => swapConfirmBody_storeSound) hs
  | sourceSelect q n keep => exact State.answer_storeSound _ _ (fun _ _ => sourceSelectBody_storeSound) hs
  | sourceCancel q => exact State.answer_storeSound _ _ (fun _ _ => sourceCancelBody_storeSound) hs
  | sourceFreeze q =>
    exact State.answer_storeSound _ _ (fun _ _ h => by cases h; exact State.storeSound_of_same rfl rfl) hs
  | setBeatPeriod q p t => exact State.answer_storeSound _ _ (fun _ _ => setBeatPeriodBody_storeSound) hs
  | failClear q => exact State.answer_storeSound _ _ (fun _ _ => failClearBody_storeSound) hs
  | handback q w => exact State.strandRequest_storeSound _ _ w (fun _ _ _ => handbackBody_storeSound) hs
  | setNode q n => exact State.answer_storeSound _ _ (fun _ _ => setNodeBody_storeSound) hs
  | setSlotBase q b => exact State.answer_storeSound _ _ (fun _ _ => setSlotBaseBody_storeSound) hs
  | setStrandMask q m => exact State.answer_storeSound _ _ (fun _ _ => setStrandMaskBody_storeSound) hs
  | tableOpen q => exact State.answer_storeSound _ _ (fun _ _ => tableOpenBody_storeSound) hs
  | tableClose q =>
    exact State.answer_storeSound _ _ (fun _ _ h => by cases h; exact State.storeSound_of_same rfl rfl) hs
  | tableWriteSegment q n fs => exact State.answerSized_storeSound _ _ _ (fun _ _ => writeSegmentBody_storeSound) hs
  | tableWriteProfile q n fs => exact State.answerSized_storeSound _ _ _ (fun _ _ => writeProfileBody_storeSound) hs
  | tableWriteCooling q n fs => exact State.answerSized_storeSound _ _ _ (fun _ _ => writeCoolingBody_storeSound) hs
  | tableWritePlant q n fs => exact State.answerSized_storeSound _ _ _ (fun _ _ => writePlantBody_storeSound) hs
  | tableWriteLimits q n fs => exact State.answerSized_storeSound _ _ _ (fun _ _ => writeLimitsBody_storeSound) hs
  | tableRead q kind n => exact State.answer_storeSound _ _ (fun _ _ => tableReadBody_storeSound) hs
  | commit q => exact State.answer_storeSound _ _ (fun _ _ => commitBody_storeSound) hs
  | protectSet q r c l key =>
    exact State.answer_storeSound (s := { s with key }) _ _ (fun _ _ => protectSetBody_storeSound)
      (State.storeSound_of_same rfl rfl hs)
  | limitsLock q => exact State.answer_storeSound _ _ (fun _ _ => limitsLockBody_storeSound) hs
  | alarmPop q n => exact State.answer_storeSound _ _ (fun _ _ => alarmPopBody_storeSound) hs
  | countersRead q fl => exact State.answer_storeSound _ _ (fun _ _ => countersReadBody_storeSound) hs
  | watch q w => exact State.answer_storeSound _ _ (fun _ _ => watchBody_storeSound) hs
  | _ => exact hs

theorem State.requestFrame_storeSound (f : Frame) (s : State) (hs : s.storeSound) : (s.requestFrame f).storeSound := by
  unfold State.requestFrame
  split
  · exact ((State.count_moves _ s).trans (State.reply_moves _ _ _ _ _)).storeSound hs
  · exact ((State.count_moves _ s).trans (State.reply_moves _ _ _ _ _)).storeSound hs
  · exact State.runRequest_storeSound _ s hs
  · exact State.answer_storeSound _ _ (fun _ _ h => (writeNoKindBody_refuses h).elim) hs

theorem State.receive_storeSound (f : Frame) (s : State) (hs : s.storeSound) : (s.receive f).storeSound := by
  unfold State.receive
  split
  · exact (State.countSend_moves _ f s).storeSound hs
  · exact hs
  · exact ((State.send_moves f s).drives.trans (State.sourceBeat_drives _ _ _)).storeSound hs
  · exact (State.plantFrame_drives f s).storeSound hs
  · exact (State.statusFrame_moves f s).storeSound hs
  · exact (State.sensorFrame_moves _ f s).storeSound hs
  · exact (State.actuatorFrame_moves _ f s).storeSound hs
  · exact (State.countSend_moves _ f s).storeSound hs
  · exact State.requestFrame_storeSound f s hs
  · exact (State.send_moves f s).storeSound hs

theorem execInputSilence_drives (i : InputId) (h : execInputSilence i s = .next t) : s.drives t := by
  cases h
  cases i with
  | level k => dsimp only; split; exacts [(State.sense_moves k _ _ s).drives, (State.moves.refl s).drives]
  | feedback k => dsimp only; split; exacts [(State.sense_moves k _ _ s).drives, (State.moves.refl s).drives]
  | plant => dsimp only; split; exacts [(State.agePlant_moves _ s).drives, (State.moves.refl s).drives]

theorem execInputClear_drives (i : InputId) (h : execInputClear i s = .next t) : s.drives t := by
  cases h
  cases i with
  | level k => dsimp only; split; exacts [(State.sense_moves k _ _ s).drives, (State.moves.refl s).drives]
  | feedback k => dsimp only; split; exacts [(State.sense_moves k _ _ s).drives, (State.moves.refl s).drives]
  | plant => dsimp only; split; exacts [State.setPlantInput_drives _ s, (State.moves.refl s).drives]

/-- Every command keeps the store and the runs sound; the end of the load takes the load's own state for it. -/
theorem exec_storeSound {c : Instr} (h : exec c s = .next t) (hl : s.loadSound) (hs : s.storeSound) : t.storeSound := by
  have stays : ∀ {p : Prop} [Decidable p] {u : State}, s.moves u → (if p then u else s).storeSound := fun hu => by
    split
    · exact hu.storeSound hs
    · exact hs
  have received := fun f => State.receive_storeSound f s hs
  cases hq : c.head with
  | some q =>
    rw [exec_request hq] at h
    cases h
    exact State.runRequest_storeSound c s hs
  | none =>
    cases c with
    | powerOnReset => cases h; exact State.powerOn_storeSound hs
    | startUpLoadDone n =>
      cases h
      split
      · next hload => exact State.endLoad_storeSound n hload hl hs
      · exact hs
    | warmReset => cases h; exact State.warmReset_storeSound hs
    | commitDone => exact execCommitDone_storeSound h hs
    | lockDone => exact execLockDone_storeSound h hs
    | unknownRequest f => cases h; split; exacts [State.requestFrame_storeSound f s hs, received f]
    | badCheckFrame words =>
      cases h
      split
      · exact State.storeSound_of_same rfl rfl hs
      · next f _ => exact received f
    | ownFrameReturn f => cases h; split; exacts [hs, received f]
    | passThroughFrame f => cases h; split; exacts [(State.send_moves f s).storeSound hs, received f]
    | malformedFrame f => cases h; split; exacts [(State.countSend_moves _ f s).storeSound hs, received f]
    | beatFrame f n =>
      cases h
      split
      exacts [((State.send_moves f s).drives.trans (State.sourceBeat_drives _ _ _)).storeSound hs, received f]
    | pulseEdge n => cases h; exact (State.sourceBeat_drives .pulse n s).storeSound hs
    | localExpiry => cases h; exact s.localBeat_drives.storeSound hs
    | sourceSilent src => cases h; exact (State.sourceSilence_drives src s).storeSound hs
    | switchComplete n =>
      cases h
      split
      · exact hs
      · exact s.localBeat_drives.storeSound hs
      · split
        exacts [(State.sourceBeat_drives _ n s).storeSound hs, hs]
    | blendComplete k =>
      cases h
      split
      exacts [stays (State.blendStep_moves k s), hs]
    | starved k =>
      cases h
      split
      · next hr =>
        have hm : s.moves (s.updCtx k fun c => { c with starved := true, starvedCount := satInc c.starvedCount }) :=
          State.note_moves k _ s hr.1 rfl
        exact (hm.raise _ _ _).storeSound hs
      · exact hs
    | deficit => cases h; exact stays (State.countDeficit_moves s)
    | inputSilence i => exact (execInputSilence_drives i h).storeSound hs
    | sensorSample f => cases h; split; exacts [(State.sensorFrame_moves _ f s).storeSound hs, received f]
    | levelFrozen k => cases h; exact stays (State.sense_moves k _ _ s)
    | inputClear i => exact (execInputClear_drives i h).storeSound hs
    | levelTrip k => cases h; exact stays (State.tripAll_moves _ _ s)
    | plantSample f => cases h; split; exacts [(State.plantFrame_drives f s).storeSound hs, received f]
    | dipWindowExpiry => cases h; exact stays (State.dipBeat_moves s)
    | loweringWindowExpiry => cases h; exact stays (State.changeBeat_moves s)
    | swapWindowExpiry => cases h; exact stays (State.changeBeat_moves s)
    | followTrip k => cases h; exact stays ((State.countFollow_moves _ k s).trans (State.tripAll_moves _ _ _))
    | masterActuatorFrame f => cases h; split; exacts [(State.actuatorFrame_moves _ f s).storeSound hs, received f]
    | statusSlotFrame f => cases h; split; exacts [(State.statusFrame_moves f s).storeSound hs, received f]
    | originate k => cases h; exact stays (State.originStep_moves k s)
    | retiredNodeClear => cases h; exact stays (State.countRetired_moves s)
    | _ => cases hq

/-- Settles O58: every command keeps images, pins and runs sound together, given the state of the load. -/
theorem runsStayInUsedSegments : Obligations.RunsStayInUsedSegments := by
  intro s t hl himg hrun h
  have hs : s.storeSound := ⟨himg, hrun⟩
  unfold step at h
  split at h
  · cases h; exact hs
  · exact exec_storeSound (s := { s with pending := _ }) h hl hs

end
end Sys2Proof.Machine

/-! The change coordinator and the dip monitor: releases, lowering, windows (R37, R91 to R102, R108). -/

namespace Sys2Proof.Machine

/-! ## Steps over the enrolled set as one change -/

theorem State.mapStrands_congr {s : State} {f g : StrandId → Strand → Strand}
    (h : ∀ k, f k (s.strand k) = g k (s.strand k)) : s.mapStrands f = s.mapStrands g := by
  unfold State.mapStrands
  rw [funext h]

/-- Steps that each update their own strand, by a function that the rest of the state fixes, are those updates. -/
theorem forStrands_eq_upd {l : List StrandId} {f : StrandId → State → State} {g : StrandId → Strand → Strand} {s : State}
    (h : ∀ k t, s.near t → f k t = t.upd k (g k)) :
    forStrands l f s = forStrands l (fun k t => t.upd k (g k)) s := by
  induction l generalizing s with
  | nil => rfl
  | cons k l ih =>
    have hk := h k s s.near_refl
    calc forStrands l f (f k s) = forStrands l f (s.upd k (g k)) := by rw [hk]
      _ = forStrands l (fun k t => t.upd k (g k)) (s.upd k (g k)) :=
        ih fun j t ht => h j t (State.near_trans (State.near_upd s k _) ht)

/-- Such steps for the enrolled set change every strand that has a low mark. -/
theorem State.forEnrolled_eq {s : State} {ks : List StrandId} {f : StrandId → State → State} {g : Strand → Strand}
    (hks : ks = s.enrolledSet) (h : ∀ k t, s.near t → f k t = t.upd k g) :
    forStrands ks f s = s.mapStrands fun _ x => if x.mark.isSome then g x else x := by
  rw [hks, forStrands_eq_upd h, State.enrolledSet, forStrands_upd_filter]
  exact State.mapStrands_congr fun _ => rfl

theorem State.reloaded_near {s t : State} (h : s.near t) (c : Context) : t.reloaded c = s.reloaded c := by
  unfold State.near at h; rw [h]; rfl

/-- Out of LOWERING, where the override has ceased, a reload changes the context as the claims say (R37). -/
theorem State.reload_eq {s : State} (k : StrandId) (h : s.change ≠ .lowering) :
    s.reload k = s.upd k fun x => { x with ctx := s.reloaded x.ctx } := by
  have free : ∀ f, (s.updCtx k f).overridden k = false := fun f => by simp [State.overridden, h]
  have same : (s.ctx k).profile = none ∨ (s.ctx k).segment = none → s.reloaded (s.strand k).ctx = (s.strand k).ctx := by
    rintro (hc | hc) <;> rw [State.ctx] at hc <;> unfold State.reloaded <;> rw [hc]
    cases (s.strand k).ctx.profile <;> rfl
  have kept : (s.ctx k).profile = none ∨ (s.ctx k).segment = none →
      s = s.upd k fun x => { x with ctx := s.reloaded x.ctx } :=
    fun hc => (State.upd_self (by rw [same hc])).symm
  rcases hp : (s.ctx k).profile with _ | p
  · refine Eq.trans ?_ (kept (.inl hp))
    rcases hn : (s.ctx k).segment with _ | (n | _) <;> simp [State.reload, State.enterSegment, State.segmentOf, hp, hn]
  · have hp' : (s.strand k).ctx.profile = some p := hp
    rcases hn : (s.ctx k).segment with _ | (n | _)
    · refine Eq.trans ?_ (kept (.inr hn))
      simp [State.reload, State.segmentOf, hp, hn]
    · have hn' : (s.strand k).ctx.segment = some (.seg n) := hn
      simp only [State.reload, State.segmentOf, hp, hn]
      exact State.upd_congr (by simp only [State.reloaded, hp', hn'])
    · have hn' : (s.strand k).ctx.segment = some .atEnd := hn
      simp only [State.reload, State.enterSegment, State.profileOf, hp, hn, free, Bool.false_eq_true, if_false]
      exact State.upd_congr (by simp only [State.reloaded, hp', hn'])

/-! ## Releases -/

/-- The release of the enrolled set (R100). -/
theorem State.releaseChange_eq (s : State) : s.releaseChange =
    { s.mapStrands (fun _ x => if x.mark.isSome then x.released else x) with change := .clear }.raise .change none 0 := by
  unfold State.releaseChange
  rw [State.forEnrolled_eq rfl fun _ _ _ => rfl]
  rfl

/-- The release from LOWERING loads target and rate again (R101, R37). -/
theorem State.cancelLowering_eq (s : State) : s.cancelLowering =
    { s.mapStrands (fun _ x => if x.mark.isSome then { x with ctx := s.reloaded x.ctx }.released else x) with
      change := .clear }.raise .change none 0 := by
  have each : ∀ k t, State.near { s with change := .clear } t → (t.reload k).upd k Strand.released
      = t.upd k fun x => { x with ctx := s.reloaded x.ctx }.released := fun k t ht => by
    have hc : t.change ≠ .lowering := by unfold State.near at ht; rw [ht]; nofun
    rw [State.reload_eq k hc, State.upd_upd]
    simp only [State.reloaded_near ht]
    rfl
  unfold State.cancelLowering
  rw [State.forEnrolled_eq (ks := s.enrolledSet) (s := { s with change := .clear }) rfl each]
  rfl

/-- Settles O24: the two releases, and the refusals of the other coordinator states. -/
theorem changeReleases : Obligations.ChangeReleases := by
  intro s q ha released freed reloaded
  have accepted : ∀ (code : Word) {body : State → Answer} {t : State}, body s = .ok (t, []) →
      (.next (s.answer code q body) : Outcome) = .next (t.reply code q .ok []) :=
    fun _ _ _ h => congrArg _ (State.answer_ok ha h)
  have refused : ∀ (code : Word) {body : State → Answer}, body s = .error .state →
      (.next (s.answer code q body) : Outcome) = .next (s.reply code q .state []) :=
    fun _ _ h => congrArg _ (State.answer_error ha h)
  have hfreed : s.releaseChange = freed := State.releaseChange_eq s
  have hreloaded : s.cancelLowering = reloaded := State.cancelLowering_eq s
  rw [← hfreed, ← hreloaded]
  refine ⟨fun h => accepted 11 ?_, fun h => accepted 11 ?_, fun h => refused 11 ?_, fun h => accepted 12 ?_,
    fun h => refused 12 ?_⟩
  · simp [changeCancelBody, h]
  · simp [changeCancelBody, h]
  · rcases h with h | h <;> simp [changeCancelBody, h]
  · simp [swapConfirmBody, h]
  · cases hc : s.change <;> simp_all [swapConfirmBody]

/-! ## The beat of the coordinator -/

/-- The strands above their low marks, as the claims list them (R96). -/
theorem State.laggards_eq (s : State) :
    s.laggards = strandIds.filter fun k => (s.strand k).mark.any fun m => decide (m < (s.ctx k).acc) := by
  unfold State.laggards State.enrolledSet
  rw [List.filter_filter]
  congr 1
  funext k
  unfold Strand.atLow State.ctx
  cases (s.strand k).mark with
  | none => simp
  | some m => by_cases hm : m < (s.strand k).ctx.acc <;> simp [hm]

/-- With every enrolled strand at low, CHANGE holds them and the override ends (R96, R37); a state next to s loads as s does. -/
theorem State.toAtLow_eq {s t : State} (h : s.near t) : t.toAtLow =
    { t.mapStrands (fun _ x => if x.mark.isSome then
      { x with ctx := s.reloaded (x.ctx.addReason .change) } else x) with change := .atLow }.raise .change none 2 := by
  have each : ∀ k u, State.near { t with change := .atLow } u → (u.updCtx k (Context.addReason .change)).reload k
      = u.upd k fun x => { x with ctx := s.reloaded (x.ctx.addReason .change) } := fun k u hu => by
    have hc : (u.updCtx k (Context.addReason .change)).change ≠ .lowering := by
      unfold State.near at hu; rw [hu]; nofun
    have hr : ∀ c, (u.updCtx k (Context.addReason .change)).reloaded c = s.reloaded c := fun c =>
      (State.reloaded_near hu c).trans (State.reloaded_near h c)
    rw [State.reload_eq k hc, State.updCtx, State.upd_upd]
    exact State.upd_congr (by simp only; rw [← hr]; rfl)
  unfold State.toAtLow
  rw [State.forEnrolled_eq (ks := t.enrolledSet) (s := { t with change := .atLow }) rfl each]
  rfl

/-- What the trips of an expired lowering window leave decides between AT_LOW and CLEAR (R96). -/
theorem State.expireLowering_eq {s t : State} (ht : forStrands s.laggards (State.tripOne .changeLate) s = t) :
    s.expireLowering = if ∀ k, (t.strand k).mark = none then t.moveChange .clear else t.toAtLow := by
  simp only [State.expireLowering, ht, ← State.anyEnrolled_eq_false]
  cases t.anyEnrolled <;> rfl

/-- Settles O25: each beat of the coordinator and of the dip monitor by its branches, and the rows that take the expiring beat. -/
theorem windowsExpire : Obligations.WindowsExpire := by
  intro s enrolled late emptied cleared
  have hlate : s.laggards = late := State.laggards_eq s
  have lowering : s.change = .lowering → late ≠ [] → s.changeBeat =
      if s.plant.loweringWindow ≤ s.countLowering.loweringCount then s.countLowering.expireLowering else s.countLowering :=
    fun h hl => by simp only [State.changeBeat, h, hlate, if_neg hl]
  have swap : s.change = .swap → s.changeBeat =
      if s.plant.swapWindow ≤ s.countSwap.swapCount then s.countSwap.expireSwap else s.countSwap :=
    fun h => by simp only [State.changeBeat, h]
  have dipped : s.dip = .dipped → s.dipBeat =
      if s.plant.dipWindow ≤ s.countDip.dipCount then s.countDip.tripAll .dipLong s.dipHolders else s.countDip :=
    fun h => by simp only [State.dipBeat, h]
  have loweringRow : s.change = .lowering → late ≠ [] → s.plant.loweringWindow ≤ s.countLowering.loweringCount →
      exec .loweringWindowExpiry s = .next s.changeBeat :=
    fun h hl hw => congrArg Host.Outcome.next (if_pos ⟨h, hlate ▸ hl, hw⟩)
  have swapRow : s.change = .swap → s.plant.swapWindow ≤ s.countSwap.swapCount →
      exec .swapWindowExpiry s = .next s.changeBeat :=
    fun h hw => congrArg Host.Outcome.next (if_pos ⟨h, hw⟩)
  have dipRow : s.dip = .dipped → s.plant.dipWindow ≤ s.countDip.dipCount → exec .dipWindowExpiry s = .next s.dipBeat :=
    fun h hw => congrArg Host.Outcome.next (if_pos ⟨h, hw⟩)
  refine ⟨fun h hl => ?_, fun h hl hw => ?_, fun h hw => ?_, fun h => ?_, fun h => ?_, fun h hw => ?_, loweringRow, swapRow,
    dipRow, fun h hl hw => ?_, fun h hw => ?_, fun h hw => ?_⟩
  · rw [← State.toAtLow_eq s.near_refl]
    simp only [State.changeBeat, h, hlate, if_pos hl]
  · exact (lowering h hl).trans (if_neg (Nat.not_le.mpr hw))
  · exact (swap h).trans (if_neg (Nat.not_le.mpr hw))
  · rcases h with h | h <;> simp only [State.changeBeat, h]
  · simp only [State.dipBeat, h]
  · exact (dipped h).trans (if_neg (Nat.not_le.mpr hw))
  · intro t
    have hnear : s.countLowering.near t :=
      (State.trips_near _ _ (strandIds_nodup.filter _) s.countLowering).1
    have hlow := State.toAtLow_eq hnear
    rw [loweringRow h hl hw, lowering h hl, if_pos (show _ ≤ s.countLowering.loweringCount from hw),
      State.expireLowering_eq (t := t) (congrArg (fun l => forStrands l _ s.countLowering) hlate), hlow]
    rfl
  · rw [swapRow h hw, swap h, if_pos (show _ ≤ s.countSwap.swapCount from hw)]
    rfl
  · intro t
    have hnear : s.countDip.near t := (State.trips_near _ _ (strandIds_nodup.filter _) s.countDip).1
    have hc : t.change = s.change := by unfold State.near at hnear; rw [hnear]; rfl
    rw [dipRow h hw, dipped h, if_pos (show _ ≤ s.countDip.dipCount from hw), State.tripAll_eq_settled, ← hc]
    rfl

end Sys2Proof.Machine

/-! A fresh sample at a running strand: SENSOR, the confirm latch and the level gate (R41, R84 to R87). -/

namespace Sys2Proof.Machine

/-! ## What hold reasons leave of a run -/

section
variable (r : Reason) (c : Context)

@[simp] theorem Context.addReason_profile : (c.addReason r).profile = c.profile := by
  rw [Context.addReason_eq]

@[simp] theorem Context.addReason_segment : (c.addReason r).segment = c.segment := by
  rw [Context.addReason_eq]

@[simp] theorem Context.addReason_levelExcess : (c.addReason r).levelExcess = c.levelExcess := by
  rw [Context.addReason_eq]

@[simp] theorem Context.removeReason_profile : (c.removeReason r).profile = c.profile := by
  rw [Context.removeReason_eq]

@[simp] theorem Context.removeReason_segment : (c.removeReason r).segment = c.segment := by
  rw [Context.removeReason_eq]

@[simp] theorem Context.removeReason_levelExcess : (c.removeReason r).levelExcess = c.levelExcess := by
  rw [Context.removeReason_eq]

end

/-- What a sample brings to SENSOR leaves what a strand runs. -/
theorem Context.sensorChange_run (before after : StrandInput) (c : Context) :
    (c.sensorChange before after).running = c.running ∧ (c.sensorChange before after).profile = c.profile
      ∧ (c.sensorChange before after).segment = c.segment := by
  have quiet : ∀ d : Context, d = c ∨ d = { c with levelExcess := 0 } →
      d.running = c.running ∧ d.profile = c.profile ∧ d.segment = c.segment := by
    rintro d (rfl | rfl) <;> exact ⟨rfl, rfl, rfl⟩
  obtain ⟨hr, hp, hs⟩ := quiet (if before.lvl.loss = .valid ∧ after.lvl.loss ≠ .valid then { c with levelExcess := 0 } else c)
    (by split <;> simp)
  unfold Context.sensorChange
  dsimp only
  split
  · simp [hr, hp, hs]
  · split <;> simp [hr, hp, hs]

/-- The speed feedback input does not leave VALID at a fresh sample, so that SENSOR follows the level input alone into the hold
set (R79, R84). -/
theorem Context.sensorChange_take (pl : Plant) (x : SensorReading) (r : StrandInput) (c : Context) :
    c.sensorChange r (r.take pl x) =
      if r.lvl.loss = .valid ∧ (r.take pl x).lvl.loss ≠ .valid then { c with levelExcess := 0 }.addReason .sensor
      else if (r.lvl.loss ≠ .valid ∨ r.fb.loss ≠ .valid) ∧ (r.take pl x).lvl.loss = .valid ∧ (r.take pl x).fb.loss = .valid then
        c.removeReason .sensor
      else c := by
  have hfb : ¬ (r.fb.loss = .valid ∧ (r.take pl x).fb.loss ≠ .valid) := fun ⟨hv, hn⟩ =>
    (StrandInput.take_losses pl x r).2.elim hn fun h => hn (h.trans hv)
  unfold Context.sensorChange StrandInput.bothValid
  generalize r.take pl x = after at hfb ⊢
  dsimp only
  simp only [hfb, or_false]
  split
  · rfl
  · refine if_congr ?_ rfl rfl
    simp only [decide_eq_true_eq, not_and_or]
    exact and_comm

/-! ## The parts of a fresh sample at the record it leaves -/

section
variable {s : State} {k : StrandId} {after : StrandInput} {c : Context}

theorem State.taken_segmentOf (d : Context) : (s.taken k after c).segmentOf d = s.segmentOf d := by
  have h := State.taken_near s k after c
  unfold State.near at h
  rw [h]
  rfl

theorem State.taken_profileOf (d : Context) : (s.taken k after c).profileOf d = s.profileOf d := by
  have h := State.taken_near s k after c
  unfold State.near at h
  rw [h]
  rfl

/-- The context with the confirm flag of a sample taken (R41). -/
def State.confirmed (s : State) (flag : Bool) (c : Context) : Context :=
  { c with confirmSeen := c.confirmSeen || flag && (s.segmentOf c).any Segment.confirm }

theorem State.taken_takeConfirm (flag : Bool) (hr : c.running = true) :
    (s.taken k after c).takeConfirm k flag = s.taken k after (s.confirmed flag c) := by
  unfold State.takeConfirm State.confirmed
  rw [State.taken_ctx, State.taken_segmentOf]
  cases s.segmentOf c with
  | none => simp
  | some g =>
    cases flag
    · simp
    · cases hg : g.confirm <;> simp [hr, hg, State.taken_updCtx]

theorem State.taken_levelGate (level : Int) (hr : c.running = true) :
    let held := (c.gateLevel (s.profileOf c) level.natAbs).countExcess (s.profileOf c) level.natAbs
    (s.taken k after c).levelGate k level =
      if after.lvl.loss ≠ .valid then s.taken k after c
      else if (s.profileOf c).tripBand < level.natAbs ∧ (s.profileOf c).tripCount ≤ held.levelExcess then
        ((s.taken k after held).tripOne .level k).settled
      else s.taken k after held := by
  have hinput : ((s.taken k after c).strand k).input = after := by rw [State.taken_strand, if_pos rfl]
  unfold State.levelGate
  rw [State.taken_ctx, State.taken_profileOf, hinput]
  dsimp only
  rw [State.taken_updCtx, State.taken_ctx, State.tripAll_one]
  by_cases hv : after.lvl.loss = .valid
  · rw [if_pos ⟨hr, hv⟩, if_neg (not_not.mpr hv)]
  · rw [if_neg (fun h => hv h.2), if_pos hv]

/-- A fresh sample without breakout at a running strand: SENSOR, the confirm latch, the level gate (R75). -/
theorem State.takeFreshSensor_running {x : SensorReading} (hb : x.breakout = false) (hr : (s.ctx k).running = true) :
    let before := (s.strand k).input
    let latched := s.confirmed x.confirm ((s.ctx k).sensorChange before (before.take s.plant x))
    s.takeFreshSensor k x = (s.taken k (before.take s.plant x) latched).levelGate k x.level := by
  have hsensed := (Context.sensorChange_run (s.strand k).input ((s.strand k).input.take s.plant x) (s.ctx k)).1.trans hr
  unfold State.takeFreshSensor State.takeBreakout
  dsimp only
  rw [State.setInput_taken, hb, if_neg Bool.false_ne_true, State.taken_updCtx, State.taken_takeConfirm _ hsensed]

end

theorem Context.gateLevel_levelExcess (p : Profile) (d : Nat) (c : Context) : (c.gateLevel p d).levelExcess = c.levelExcess := by
  unfold Context.gateLevel
  split
  · exact Context.addReason_levelExcess _ _
  · split
    · exact Context.removeReason_levelExcess _ _
    · rfl

/-- Settles O20: the parts of the sample one after the other, each at the record the sample leaves. -/
theorem levelGateHoldsAndReleases : Obligations.LevelGateHoldsAndReleases := by
  intro s f k p a b c d hu hp hl hf hr hprof hc x pr level after sensed wanted latched gated excess taken held
  have hread : readSensor a b c d = { level, feedback := min b.toNat 8000, breakout := false, confirm := c.getLsbD 1, seq := d } := by
    rw [← hc]; rfl
  have hsensed : x.ctx.sensorChange x.input after = sensed := Context.sensorChange_take _ _ _ _
  obtain ⟨hsr, hsp, hss⟩ := Context.sensorChange_run x.input after x.ctx
  rw [hsensed] at hsr hsp hss
  have hwanted : (s.segmentOf sensed).any Segment.confirm = wanted := by
    unfold State.segmentOf
    rw [hsp, hss, show x.ctx.profile = some p from hprof]
    change Option.any _ _ = (match x.ctx.segment with | some (.seg n) => (s.working.segment p n).confirm | _ => false)
    rcases x.ctx.segment with _ | (n | _) <;> rfl
  have hlatched : (s.send f).confirmed (c.getLsbD 1) sensed = latched :=
    congrArg (fun w => { sensed with confirmSeen := sensed.confirmSeen || c.getLsbD 1 && w }) hwanted
  have hpr : (s.send f).profileOf latched = pr := by
    change (match sensed.profile with | some p => s.working.profile p | none => defaultProfile) = pr
    rw [hsp, show x.ctx.profile = some p from hprof]
  have hheld : (latched.gateLevel pr level.natAbs).countExcess pr level.natAbs = { gated with levelExcess := excess } := by
    unfold Context.countExcess
    rw [Context.gateLevel_levelExcess]
    rfl
  have hexec : exec (.sensorSample f) s = .next ((s.send f).takeFreshSensor k (readSensor a b c d)) :=
    exec_sensorSample_fresh hu hp hl hf
  have hrun := State.takeFreshSensor_running (s := s.send f) (k := k) (x := readSensor a b c d) hc hr
  rw [hread] at hexec hrun
  have hgate := State.taken_levelGate (s := s.send f) (k := k) (after := after) (c := latched) level (hsr.trans hr)
  rw [hpr, hheld] at hgate
  have hall : exec (.sensorSample f) s = .next
      (if after.lvl.loss ≠ .valid then taken latched
      else if pr.tripBand < level.natAbs ∧ pr.tripCount ≤ excess then (held.tripOne .level k).settled else held) := by
    refine hexec.trans (congrArg _ (hrun.trans (Eq.trans ?_ hgate)))
    rw [← hlatched, ← hsensed]
    rfl
  rw [hall]
  refine ⟨fun hv => ?_, fun hv hb => ?_, fun hv hb ht => ?_⟩
  · rw [if_pos hv]
  · rw [if_neg (not_not.mpr hv), if_neg fun h => hb.elim (Nat.not_le.mpr h.1) (Nat.not_lt.mpr h.2)]
  · rw [if_neg (not_not.mpr hv), if_pos ⟨hb, ht⟩]

end Sys2Proof.Machine

/-! One strand in the phases of an admission pass (R60 to R65). -/

namespace Sys2Proof.Machine

/-! ## States that differ in their strands -/

/-- t is s but for strand records. -/
def State.sameRest (s t : State) : Prop := t = { s with strands := t.strands }

theorem State.sameRest.refl (s : State) : s.sameRest s := rfl

theorem State.sameRest.trans {s t u : State} (h : s.sameRest t) (g : t.sameRest u) : s.sameRest u := by
  unfold State.sameRest at *; rw [g, h]

theorem State.sameRest_upd (s : State) (k : StrandId) (f : Strand → Strand) : s.sameRest (s.upd k f) := rfl

theorem State.sameRest.near {s t : State} (h : s.sameRest t) : s.near t := by
  unfold State.sameRest at h; unfold State.near; rw [h]

theorem State.grantFor_near {s t : State} (h : s.near t) : t.grantFor = s.grantFor := by
  unfold State.near at h; rw [h]; rfl

/-! ## The arbiter's order -/

theorem State.arbiterOrder_nodup (s : State) : s.arbiterOrder.Nodup := by
  have rotated : ∀ p : StrandId, (strandIds.map fun k => p + k).Nodup := by decide
  unfold State.arbiterOrder
  split
  · exact orderBy_nodup _
  · exact rotated _

theorem State.mem_arbiterOrder (s : State) (k : StrandId) : k ∈ s.arbiterOrder := by
  have rotated : ∀ p k : StrandId, k ∈ strandIds.map fun k => p + k := by decide
  unfold State.arbiterOrder
  split
  · exact (mem_orderBy _ _ _).mpr (mem_strandIds k)
  · exact rotated _ k

/-! ## What a pass holds for one strand -/

/-- The answers given so far to strand k. -/
def PassPoint.answersAt (p : PassPoint) (k : StrandId) : List (Ask × Verdict) := p.answers.filter fun av => av.1.strand = k

/-- From p to q the pass has not reached strand k. -/
structure PassPoint.spares (k : StrandId) (p q : PassPoint) : Prop where
  rest : p.state.sameRest q.state
  strand : q.state.strand k = p.state.strand k
  answers : q.answersAt k = p.answersAt k
  won : k ∈ q.won ↔ k ∈ p.won

/-- Where a pass stands before its phases. -/
def State.passStart (s : State) : PassPoint := ⟨s, [], [], 0⟩

/-- The record that bounds a running strand's next grant: the grant record, or a shadow run's own. -/
def Strand.held (x : Strand) : Grant := if x.ctx.shadow then x.shadowGrant else x.grant

/-- The records of a running strand with another grant. -/
def Strand.regranted (g : Grant) (x : Strand) : Strand :=
  if x.ctx.shadow then { x with shadowGrant := g } else { x with grant := g }

theorem Strand.regranted_held (x : Strand) : x.regranted x.held = x := by
  unfold Strand.regranted Strand.held
  split <;> rfl

theorem Strand.regranted_ctx (g : Grant) (x : Strand) : (x.regranted g).ctx = x.ctx := by
  unfold Strand.regranted
  split <;> rfl

/-- The pass that began its phases at s has answered strand k once, with verdict v and grant g. -/
structure PassPoint.settles (s : State) (k : StrandId) (v : Verdict) (g : Grant) (p : PassPoint) : Prop where
  rest : s.sameRest p.state
  strand : p.state.strand k = (s.strand k).regranted g
  answers : p.answersAt k = [(s.askOf k, v)]

section
variable {s : State} {k : StrandId} {p q r : PassPoint} {v : Verdict} {g : Grant}

theorem PassPoint.spares.refl : p.spares k p := ⟨.refl _, rfl, rfl, Iff.rfl⟩

theorem PassPoint.spares.trans (h : p.spares k q) (h' : q.spares k r) : p.spares k r :=
  ⟨h.rest.trans h'.rest, h'.strand.trans h.strand, h'.answers.trans h.answers, h'.won.trans h.won⟩

theorem PassPoint.settles.spares (h : p.settles s k v g) (h' : p.spares k q) : q.settles s k v g :=
  ⟨h.rest.trans h'.rest, h'.strand.trans h.strand, h'.answers.trans h.answers⟩

/-- An answer to another strand spares k. -/
theorem PassPoint.spares_note {a : Ask} (h : k ≠ a.strand) {t : State} (hr : p.state.sameRest t)
    (ht : t.strand k = p.state.strand k) {won : List StrandId} (hw : k ∈ won ↔ k ∈ p.won) (sum : Nat) (v : Verdict) :
    p.spares k (PassPoint.note ⟨t, p.answers, won, sum⟩ a v) :=
  ⟨hr, ht, by simp [PassPoint.answersAt, PassPoint.note, h.symm], hw⟩

/-- The one answer to strand k, where the pass has spared it so far. -/
theorem PassPoint.spares.note (h : s.passStart.spares k p) {t : State} (hr : p.state.sameRest t)
    (ht : t.strand k = (p.state.strand k).regranted g) (won : List StrandId) (sum : Nat) (v : Verdict) :
    (PassPoint.note ⟨t, p.answers, won, sum⟩ (s.askOf k) v).settles s k v g := by
  refine ⟨h.rest.trans hr, ht.trans (congrArg _ h.strand), ?_⟩
  have hnone : p.answersAt k = [] := h.answers
  unfold PassPoint.answersAt at hnone ⊢
  unfold PassPoint.note
  rw [List.filter_append, hnone]
  simp [State.askOf]

end

/-! ## The visits of the four phases -/

/-- A step of a phase reaches no strand but that of its request. -/
def PassPoint.ownOnly (f : PassPoint → Ask → PassPoint) : Prop :=
  ∀ (p : PassPoint) (a : Ask) (k : StrandId), k ≠ a.strand → p.spares k (f p a)

theorem State.setGrant_other {s : State} {j k : StrandId} (h : k ≠ j) (g : Grant) : (s.setGrant j g).strand k = s.strand k := by
  rw [State.setGrant, State.strand_upd, if_neg h]

theorem State.setShadowGrant_other {s : State} {j k : StrandId} (h : k ≠ j) (g : Grant) :
    (s.setShadowGrant j g).strand k = s.strand k := by
  rw [State.setShadowGrant, State.strand_upd, if_neg h]

theorem PassPoint.grantEasy_local : PassPoint.ownOnly PassPoint.grantEasy := fun _ _ _ h =>
  PassPoint.spares_note h (State.sameRest_upd _ _ _) (State.setGrant_other h _) Iff.rfl _ _

theorem PassPoint.visit_local (budget : Nat) : PassPoint.ownOnly (PassPoint.visit budget) := fun p a k h => by
  unfold PassPoint.visit
  split
  · exact PassPoint.spares_note h (State.sameRest_upd _ _ _) (State.setGrant_other h _) (by simp [h]) _ _
  · exact .refl

theorem PassPoint.fallBack_local : PassPoint.ownOnly PassPoint.fallBack := fun p a k h => by
  have kept : p.spares k (p.note a .refused) := PassPoint.spares_note h (.refl _) rfl Iff.rfl _ _
  unfold PassPoint.fallBack
  dsimp only
  split
  · split
    · exact PassPoint.spares_note h (State.sameRest_upd _ _ _) (State.setGrant_other h _) Iff.rfl _ _
    · exact kept
  · exact kept

theorem PassPoint.visitShadow_local (budget : Nat) : PassPoint.ownOnly (PassPoint.visitShadow budget) := fun p a k h => by
  have kept : p.spares k (p.note a .refused) := PassPoint.spares_note h (.refl _) rfl Iff.rfl _ _
  unfold PassPoint.visitShadow
  dsimp only
  split
  · exact PassPoint.spares_note h (State.sameRest_upd _ _ _) (State.setShadowGrant_other h _) Iff.rfl _ _
  · split
    · split
      · exact PassPoint.spares_note h (State.sameRest_upd _ _ _) (State.setShadowGrant_other h _) Iff.rfl _ _
      · exact kept
    · exact kept

section
variable {s : State} {k : StrandId} {f : PassPoint → Ask → PassPoint} {ks : List StrandId}

/-- A phase without a request of strand k spares it. -/
theorem PassPoint.ownOnly.foldl_spares (hf : PassPoint.ownOnly f) (hk : k ∉ ks) (p : PassPoint) :
    p.spares k ((ks.map s.askOf).foldl f p) := by
  induction ks generalizing p with
  | nil => exact .refl
  | cons j ks ih =>
    rw [List.mem_cons, not_or] at hk
    exact (hf p (s.askOf j) k hk.1).trans (ih hk.2 _)

/-- A phase with one request of strand k is that request's step between two stretches that spare k. -/
theorem PassPoint.ownOnly.foldl_visits (hf : PassPoint.ownOnly f) (hn : ks.Nodup) (hk : k ∈ ks) (p : PassPoint) :
    ∃ q, p.spares k q ∧ (f q (s.askOf k)).spares k ((ks.map s.askOf).foldl f p) := by
  obtain ⟨l, r, rfl⟩ := List.append_of_mem hk
  rw [List.nodup_append, List.nodup_cons] at hn
  obtain ⟨-, ⟨hr, -⟩, hlr⟩ := hn
  have hl : k ∉ l := fun h => hlr k h k List.mem_cons_self rfl
  refine ⟨_, hf.foldl_spares (s := s) hl p, ?_⟩
  rw [List.map_append, List.map_cons, List.foldl_append, List.foldl_cons]
  exact hf.foldl_spares hr _

/-- A phase changes strand records and nothing else of the state. -/
theorem PassPoint.ownOnly.foldl_rest (hf : PassPoint.ownOnly f) (asks : List Ask) (p : PassPoint) :
    p.state.sameRest (asks.foldl f p).state := by
  have other : ∀ j : StrandId, j + 1 ≠ j := by decide
  induction asks generalizing p with
  | nil => exact .refl _
  | cons a asks ih => exact (hf p a _ (other a.strand)).rest.trans (ih _)

end

/-! ## The answer to a running strand -/

/-- What a pass may answer a running strand: its request as asked, its speed under the granted table below the granted speed, or
a refusal that keeps the grant (R61 to R65). -/
def State.mayAnswer (s : State) (k : StrandId) (v : Verdict) (g : Grant) : Prop :=
  v = .asAsked ∧ g = (s.askOf k).grant
    ∨ v = .fallback ∧ (s.askOf k).grant.speed < (s.strand k).held.speed
      ∧ (∃ n, (s.strand k).held.table = some n ∧ g = s.grantFor (s.askOf k).grant.speed n)
    ∨ v = .refused ∧ g = (s.strand k).held

section
variable {s : State} {k : StrandId} {p : PassPoint}

theorem State.setGrant_own {t : State} (hs : (t.ctx k).shadow = false) (g : Grant) :
    (t.setGrant k g).strand k = (t.strand k).regranted g := by
  rw [State.setGrant, State.strand_upd, if_pos rfl, Strand.regranted, ← State.ctx, if_neg (ne_true_of_eq_false hs)]

theorem State.setShadowGrant_own {t : State} (hs : (t.ctx k).shadow = true) (g : Grant) :
    (t.setShadowGrant k g).strand k = (t.strand k).regranted g := by
  rw [State.setShadowGrant, State.strand_upd, if_pos rfl, Strand.regranted, ← State.ctx, if_pos hs]

theorem PassPoint.spares.ctx (h : s.passStart.spares k p) : p.state.ctx k = s.ctx k := congrArg Strand.ctx h.strand

theorem PassPoint.spares.grantEasy (h : s.passStart.spares k p) (hs : (s.ctx k).shadow = false) :
    (p.grantEasy (s.askOf k)).settles s k .asAsked (s.askOf k).grant :=
  h.note (State.sameRest_upd _ _ _) (State.setGrant_own (by rw [h.ctx]; exact hs) _) _ _ _

/-- Phase 3 grants the request as asked, or leaves the pass as it was. -/
theorem PassPoint.spares.visit (h : s.passStart.spares k p) (hs : (s.ctx k).shadow = false) (budget : Nat) :
    (k ∈ (p.visit budget (s.askOf k)).won ∧ (p.visit budget (s.askOf k)).settles s k .asAsked (s.askOf k).grant)
      ∨ p.visit budget (s.askOf k) = p := by
  unfold PassPoint.visit
  split
  · exact .inl ⟨List.mem_cons_self, h.note (State.sameRest_upd _ _ _) (State.setGrant_own (by rw [h.ctx]; exact hs) _) _ _ _⟩
  · exact .inr rfl

/-- A refusal keeps the record of the strand. -/
theorem PassPoint.spares.refuse (h : s.passStart.spares k p) :
    (p.note (s.askOf k) .refused).settles s k .refused (s.strand k).held := by
  refine h.note (.refl _) ?_ _ _ _
  rw [h.strand]
  exact (Strand.regranted_held _).symm

theorem PassPoint.spares.fallBack (h : s.passStart.spares k p) (hs : (s.ctx k).shadow = false) :
    ∃ v g, (p.fallBack (s.askOf k)).settles s k v g ∧ s.mayAnswer k v g := by
  have held : (p.state.strand k).grant = (s.strand k).held := by
    rw [h.strand]; exact (if_neg (ne_true_of_eq_false hs)).symm
  have refused : ∃ v g, (p.note (s.askOf k) .refused).settles s k v g ∧ s.mayAnswer k v g :=
    ⟨_, _, h.refuse, .inr (.inr ⟨rfl, rfl⟩)⟩
  unfold PassPoint.fallBack
  rw [show (s.askOf k).strand = k from rfl, held]
  dsimp only
  split
  · next n hn =>
    split
    · next hlt =>
      refine ⟨_, _, h.note (State.sameRest_upd _ _ _) (State.setGrant_own (by rw [h.ctx]; exact hs) _) _ _ _, ?_⟩
      exact .inr (.inl ⟨rfl, hlt, n, hn, by rw [State.grantFor_near (s := s) h.rest.near]⟩)
    · exact refused
  · exact refused

theorem PassPoint.spares.visitShadow (h : s.passStart.spares k p) (hs : (s.ctx k).shadow = true) (budget : Nat) :
    ∃ v g, (p.visitShadow budget (s.askOf k)).settles s k v g ∧ s.mayAnswer k v g := by
  have held : (p.state.strand k).shadowGrant = (s.strand k).held := by
    rw [h.strand]; exact (if_pos hs).symm
  have own : ∀ g, (p.state.setShadowGrant k g).strand k = (p.state.strand k).regranted g :=
    State.setShadowGrant_own (by rw [h.ctx]; exact hs)
  have refused : ∃ v g, (p.note (s.askOf k) .refused).settles s k v g ∧ s.mayAnswer k v g :=
    ⟨_, _, h.refuse, .inr (.inr ⟨rfl, rfl⟩)⟩
  unfold PassPoint.visitShadow
  rw [show (s.askOf k).strand = k from rfl, held]
  dsimp only
  split
  · exact ⟨_, _, h.note (State.sameRest_upd _ _ _) (own _) _ _ _, .inl ⟨rfl, rfl⟩⟩
  · split
    · next n hn =>
      split
      · next hlt =>
        refine ⟨_, _, h.note (State.sameRest_upd _ _ _) (own _) _ _ _, ?_⟩
        exact .inr (.inl ⟨rfl, hlt.1, n, hn, by rw [State.grantFor_near (s := s) h.rest.near]⟩)
      · exact refused
    · exact refused

end

/-! ## The phases, one after the other -/

section
variable (s : State)

/-- The strands that really run, in the arbiter's order. -/
def State.realOrder : List StrandId := s.arbiterOrder.filter fun k => (s.ctx k).realRun

/-- The strands of phase 2: their requests ask for no more than they have (R61). -/
def State.easyOrder : List StrandId := s.realOrder.filter fun k => ¬ s.increasing (s.askOf k)

/-- The strands of phase 3 (R62). -/
def State.hardOrder : List StrandId := s.realOrder.filter fun k => s.increasing (s.askOf k)

/-- The strands of the shadow phase (R64). -/
def State.shadowOrder : List StrandId := s.arbiterOrder.filter fun k => (s.ctx k).shadowRun

/-- Where the pass stands after phase 2. -/
def State.phase2 : PassPoint := (s.easyOrder.map s.askOf).foldl PassPoint.grantEasy s.passStart

/-- Where the pass stands after phase 3. -/
def State.phase3 : PassPoint := (s.hardOrder.map s.askOf).foldl (PassPoint.visit s.budget) s.phase2

/-- The strands of phase 4 (R63). -/
def State.lostOrder : List StrandId := s.hardOrder.filter fun k => ¬ s.phase3.won.contains k

/-- Where the pass stands after phase 4. -/
def State.phase4 : PassPoint := (s.lostOrder.map s.askOf).foldl PassPoint.fallBack s.phase3

theorem State.phases_eq : s.phases = (s.shadowOrder.map s.askOf).foldl (PassPoint.visitShadow s.budget) s.phase4 := by
  unfold State.phases
  simp only [List.filter_map]
  rfl

end

section
variable {s : State} {k : StrandId}

theorem State.mem_easyOrder : k ∈ s.easyOrder ↔ (s.ctx k).realRun = true ∧ s.increasing (s.askOf k) = false := by
  simp [State.easyOrder, State.realOrder, State.mem_arbiterOrder, and_comm]

theorem State.mem_hardOrder : k ∈ s.hardOrder ↔ (s.ctx k).realRun = true ∧ s.increasing (s.askOf k) = true := by
  simp [State.hardOrder, State.realOrder, State.mem_arbiterOrder, and_comm]

theorem State.mem_lostOrder : k ∈ s.lostOrder ↔ k ∈ s.hardOrder ∧ k ∉ s.phase3.won := by
  simp [State.lostOrder]

theorem State.mem_shadowOrder : k ∈ s.shadowOrder ↔ (s.ctx k).shadowRun = true := by
  simp [State.shadowOrder, State.mem_arbiterOrder]

theorem State.hardOrder_nodup : s.hardOrder.Nodup := (s.arbiterOrder_nodup.filter _).filter _

theorem State.phase2_spares (h : k ∉ s.easyOrder) : s.passStart.spares k s.phase2 :=
  PassPoint.grantEasy_local.foldl_spares h _

theorem State.phase3_spares (h : k ∉ s.hardOrder) : s.phase2.spares k s.phase3 :=
  (PassPoint.visit_local _).foldl_spares h _

theorem State.phase4_spares (h : k ∉ s.lostOrder) : s.phase3.spares k s.phase4 :=
  PassPoint.fallBack_local.foldl_spares h _

theorem State.shadowPhase_spares (h : (s.ctx k).shadow = false) : s.phase4.spares k s.phases := by
  rw [State.phases_eq]
  refine (PassPoint.visitShadow_local _).foldl_spares (fun hm => ?_) _
  rw [((Context.shadowRun_iff _).mp (State.mem_shadowOrder.mp hm)).2] at h
  cases h

theorem State.phases_sameRest (s : State) : s.sameRest s.phases.state := by
  rw [State.phases_eq]
  exact (((PassPoint.grantEasy_local.foldl_rest _ s.passStart).trans ((PassPoint.visit_local _).foldl_rest _ _)).trans
    (PassPoint.fallBack_local.foldl_rest _ _)).trans ((PassPoint.visitShadow_local _).foldl_rest _ _)

/-- The answer to a shadow run. -/
theorem State.phases_shadow (h : (s.ctx k).running = true) (hs : (s.ctx k).shadow = true) :
    ∃ v g, s.phases.settles s k v g ∧ s.mayAnswer k v g := by
  have hreal : ¬ (s.ctx k).realRun = true := fun hr => by rw [((Context.realRun_iff _).mp hr).2] at hs; cases hs
  have hhard : k ∉ s.hardOrder := fun hm => hreal (State.mem_hardOrder.mp hm).1
  have spared : s.passStart.spares k s.phase4 :=
    ((State.phase2_spares fun hm => hreal (State.mem_easyOrder.mp hm).1).trans (State.phase3_spares hhard)).trans
      (State.phase4_spares fun hm => hhard (State.mem_lostOrder.mp hm).1)
  obtain ⟨q, hq, hlast⟩ := (PassPoint.visitShadow_local s.budget).foldl_visits (s := s) (s.arbiterOrder_nodup.filter _)
    (State.mem_shadowOrder.mpr ((Context.shadowRun_iff _).mpr ⟨h, hs⟩)) s.phase4
  obtain ⟨v, g, hset, hmay⟩ := (spared.trans hq).visitShadow hs s.budget
  rw [State.phases_eq]
  exact ⟨v, g, hset.spares hlast, hmay⟩

/-- The answer to a real run whose request is not increasing. -/
theorem State.phases_easy (hr : (s.ctx k).realRun = true) (hi : s.increasing (s.askOf k) = false) :
    s.phases.settles s k .asAsked (s.askOf k).grant := by
  have hs := ((Context.realRun_iff _).mp hr).2
  have hhard : k ∉ s.hardOrder := fun hm => by rw [(State.mem_hardOrder.mp hm).2] at hi; cases hi
  obtain ⟨q, hq, heasy⟩ := PassPoint.grantEasy_local.foldl_visits (s := s) ((s.arbiterOrder_nodup.filter _).filter _)
    (State.mem_easyOrder.mpr ⟨hr, hi⟩) s.passStart
  exact (((hq.grantEasy hs).spares (heasy.trans (State.phase3_spares hhard))).spares
    (State.phase4_spares fun hm => hhard (State.mem_lostOrder.mp hm).1)).spares (State.shadowPhase_spares hs)

/-- The answer to a real run whose request is increasing: phase 3 grants it, or phase 4 answers. -/
theorem State.phases_hard (hr : (s.ctx k).realRun = true) (hi : s.increasing (s.askOf k) = true) :
    ∃ v g, s.phases.settles s k v g ∧ s.mayAnswer k v g := by
  have hs := ((Context.realRun_iff _).mp hr).2
  have hard : k ∈ s.hardOrder := State.mem_hardOrder.mpr ⟨hr, hi⟩
  have easy : s.passStart.spares k s.phase2 :=
    State.phase2_spares fun hm => by rw [(State.mem_easyOrder.mp hm).2] at hi; cases hi
  obtain ⟨q, hq, hrest⟩ := (PassPoint.visit_local s.budget).foldl_visits (s := s) State.hardOrder_nodup hard s.phase2
  rcases (easy.trans hq).visit hs s.budget with ⟨hwon, hset⟩ | hleft
  · have hkept : k ∉ s.lostOrder := fun hm => (State.mem_lostOrder.mp hm).2 (hrest.won.mpr hwon)
    exact ⟨_, _, ((hset.spares hrest).spares (State.phase4_spares hkept)).spares (State.shadowPhase_spares hs),
      .inl ⟨rfl, rfl⟩⟩
  · rw [hleft] at hrest
    have lost : s.passStart.spares k s.phase3 := (easy.trans hq).trans hrest
    have hlost : k ∈ s.lostOrder := State.mem_lostOrder.mpr ⟨hard, fun hm => List.not_mem_nil (lost.won.mp hm)⟩
    obtain ⟨q', hq', hfall⟩ :=
      PassPoint.fallBack_local.foldl_visits (s := s) (State.hardOrder_nodup.filter _) hlost s.phase3
    obtain ⟨v, g, hset, hmay⟩ := (lost.trans hq').fallBack hs
    exact ⟨v, g, (hset.spares hfall).spares (State.shadowPhase_spares hs), hmay⟩

/-- The phases answer every running strand once, in one of the three ways. -/
theorem State.phases_settle (h : (s.ctx k).running = true) : ∃ v g, s.phases.settles s k v g ∧ s.mayAnswer k v g := by
  cases hs : (s.ctx k).shadow with
  | true => exact State.phases_shadow h hs
  | false =>
    have hr : (s.ctx k).realRun = true := (Context.realRun_iff _).mpr ⟨h, hs⟩
    cases hi : s.increasing (s.askOf k) with
    | false => exact ⟨_, _, State.phases_easy hr hi, .inl ⟨rfl, rfl⟩⟩
    | true => exact State.phases_hard hr hi

end

end Sys2Proof.Machine

/-! A running strand through the stages of an admission pass (R38, R39, R42 to R45, R57, R65, R70). -/

namespace Sys2Proof.Machine

/-! ## The stages of a pass -/

section
variable (i : Nat) (s : State)

/-- The state after the blend steps of a pass, with its budget (R54, R137). -/
def State.passBlended : State :=
  forStrands (orderBy (Config.strandRank i .blendSteps) strandIds) State.blendStep { s with budget := s.formBudget }

/-- The state in which a pass begins its phases (R38, stage 1). -/
def State.passDwelt : State := forStrands strandIds (fun k s => s.updCtx k Context.countDwell) (s.passBlended i)

/-- The state after the results of a pass (R65). -/
def State.passResults : State := (s.passDwelt i).phases.state.takeResults (s.passDwelt i).phases.answers

/-- The state after the completion tests of a pass (R42). -/
def State.passCompleted : State :=
  forStrands (orderBy (Config.strandRank i .completions) strandIds) State.completionTest (s.passResults i)

/-- The STARVED alarms due at the close of a pass (R70). -/
def State.passStarving : List (StrandId × Bool) :=
  State.newlyStarved (s.passDwelt i).phases.answers (s.passDwelt i).phases.state

theorem State.admissionPass_eq : s.admissionPass i =
    (((s.passCompleted i).movePointer (s.passDwelt i).phases.won).raiseStarved (s.passStarving i)).countDeficit := rfl

end

/-! ## One strand among steps over several -/

/-- A step over several strands that reaches its own strand's records, alarms and counters alone. -/
def stepsAlone (f : StrandId → State → State) : Prop :=
  ∀ (j : StrandId) (t : State), t.near (f j t) ∧ ∀ k, k ≠ j → (f j t).strand k = t.strand k

section
variable {f : StrandId → State → State} {l : List StrandId} {k : StrandId}

theorem stepsAlone.near (hf : stepsAlone f) (l : List StrandId) (s : State) : s.near (forStrands l f s) :=
  forStrands_induct _ l f (fun j _ t ht => State.near_trans ht (hf j t).1) s s.near_refl

theorem stepsAlone.strand_of_not_mem (hf : stepsAlone f) (hk : k ∉ l) (s : State) :
    (forStrands l f s).strand k = s.strand k :=
  forStrands_induct (fun t => t.strand k = s.strand k) l f
    (fun j hj t ht => ((hf j t).2 k fun e => hk (e ▸ hj)).trans ht) s rfl

/-- What such steps make of a strand is its own step's work, in a state near the first that has the strand as it was. -/
theorem stepsAlone.strand_of_mem (hf : stepsAlone f) (hn : l.Nodup) (hk : k ∈ l) (s : State) :
    ∃ t, s.near t ∧ t.strand k = s.strand k ∧ (forStrands l f s).strand k = (f k t).strand k := by
  obtain ⟨a, b, rfl⟩ := List.append_of_mem hk
  rw [List.nodup_append, List.nodup_cons] at hn
  obtain ⟨-, ⟨hb, -⟩, hab⟩ := hn
  have ha : k ∉ a := fun h => hab k h k List.mem_cons_self rfl
  refine ⟨forStrands a f s, hf.near a s, hf.strand_of_not_mem ha s, ?_⟩
  unfold forStrands
  rw [List.foldl_append, List.foldl_cons]
  exact hf.strand_of_not_mem hb _

end

theorem State.blendStep_alone : stepsAlone State.blendStep := fun k t =>
  ⟨(State.blendStep_near k t).1, (State.blendStep_near k t).2.1⟩

theorem State.completionTest_alone : stepsAlone State.completionTest := State.completionTest_near

/-! ## Up to the results -/

section
variable {s : State} {k : StrandId} (i : Nat)

theorem State.passBlended_near (s : State) : State.near { s with budget := s.formBudget } (s.passBlended i) :=
  State.blendStep_alone.near _ _

/-- The blend steps leave a strand that is not in HANDBACK (R137). -/
theorem State.passBlended_strand (h : (s.ctx k).state ≠ .handback) : (s.passBlended i).strand k = s.strand k := by
  obtain ⟨t, -, ht, hb⟩ := State.blendStep_alone.strand_of_mem (orderBy_nodup (Config.strandRank i .blendSteps))
    ((mem_orderBy _ _ _).mpr (mem_strandIds k)) { s with budget := s.formBudget }
  have hstate : (t.ctx k).state ≠ .handback := by rw [State.ctx, ht]; exact h
  exact hb.trans ((congrArg (State.strand · k) ((State.blendStep_near k t).2.2 hstate)).trans ht)

theorem State.passDwelt_eq (s : State) :
    s.passDwelt i = (s.passBlended i).mapStrands fun _ x => { x with ctx := x.ctx.countDwell } :=
  forStrands_upd_all _ _

theorem State.passDwelt_near (s : State) : State.near { s with budget := s.formBudget } (s.passDwelt i) := by
  rw [State.passDwelt_eq]
  exact State.near_trans (State.passBlended_near i s) rfl

theorem State.passDwelt_strand (h : (s.ctx k).state ≠ .handback) :
    (s.passDwelt i).strand k = { s.strand k with ctx := (s.ctx k).countDwell } := by
  rw [State.passDwelt_eq, State.mapStrands_strand, State.passBlended_strand i h]
  rfl

/-- The results of a pass at one strand, from the answers to it (R65). -/
theorem State.takeResults_strand (answers : List (Ask × Verdict)) (t : State) : (t.takeResults answers).strand k =
    { t.strand k with
      ctx := (answers.filter fun av => av.1.strand = k).foldl (fun c av => c.takeResult av.1.cand av.2) (t.ctx k) } := by
  unfold State.takeResults
  induction answers generalizing t with
  | nil => rfl
  | cons av l ih =>
    rw [List.foldl_cons, ih, State.ctx_updCtx, State.updCtx, State.strand_upd]
    by_cases h : av.1.strand = k
    · subst h; simp [State.ctx]
    · simp [h, Ne.symm h]

theorem State.takeResults_sameRest (answers : List (Ask × Verdict)) (t : State) : t.sameRest (t.takeResults answers) := by
  unfold State.takeResults
  induction answers generalizing t with
  | nil => exact .refl t
  | cons av l ih => exact (State.sameRest_upd t _ _).trans (ih _)

theorem State.passResults_near (s : State) : State.near { s with budget := s.formBudget } (s.passResults i) :=
  State.near_trans (State.passDwelt_near i s)
    ((State.phases_sameRest _).trans (State.takeResults_sameRest _ _)).near

theorem Context.countDwell_eq (c : Context) : c.countDwell =
    { c with dwell := if c.state = .ramping ∧ c.segment ≠ some .atEnd then min (c.dwell + 1) 65535 else c.dwell } := by
  unfold Context.countDwell
  split <;> rfl

/-- The result at a strand that the phases have answered once (R65). -/
theorem PassPoint.settles.result {p : PassPoint} {v : Verdict} {g : Grant} (h : p.settles s k v g) :
    (p.state.takeResults p.answers).strand k =
      { (s.strand k).regranted g with ctx := (s.ctx k).takeResult (s.candidate k) v } := by
  have hanswers : p.answers.filter (fun av => av.1.strand = k) = [(s.askOf k, v)] := h.answers
  rw [State.takeResults_strand, hanswers, State.ctx, h.strand, Strand.regranted_ctx]
  rfl

theorem Strand.regranted_withCtx {x : Strand} {c : Context} {g : Grant} (h : c.shadow = x.ctx.shadow) :
    { x with ctx := c }.regranted g = { x.regranted g with ctx := c } := by
  unfold Strand.regranted
  dsimp only
  rw [h]
  split <;> rfl

/-- What the phases and results leave a running strand with. -/
theorem State.passResults_strand (h : (s.ctx k).running = true) :
    ∃ v g, (s.passDwelt i).mayAnswer k v g ∧ (s.passResults i).strand k =
      { (s.strand k).regranted g with ctx := ((s.ctx k).countDwell).takeResult ((s.passDwelt i).candidate k) v } := by
  have hstate : (s.ctx k).state ≠ .handback := by
    rcases (Context.running_iff _).mp h with h | h <;> rw [h] <;> nofun
  have hd := State.passDwelt_strand i hstate
  have hc : (s.passDwelt i).ctx k = (s.ctx k).countDwell := congrArg Strand.ctx hd
  have hrun : ((s.passDwelt i).ctx k).running = true := by rw [hc, Context.countDwell_eq]; exact h
  obtain ⟨v, g, hset, hmay⟩ := State.phases_settle hrun
  refine ⟨v, g, hmay, ?_⟩
  rw [State.passResults, hset.result, hc, hd, Strand.regranted_withCtx (by rw [Context.countDwell_eq]; rfl)]

end

/-! ## The ramp step -/

section
variable {s : State} {k : StrandId}

/-- Where a ramp step heads (R38, R44, R95). -/
theorem State.stepTarget_eq {v : Nat} (h : (s.ctx k).target = some v) : s.stepTarget k =
    if s.change = .lowering ∧ (s.ctx k).enrolled = true then (s.strand k).mark.getD (s.ctx k).acc
    else if (s.ctx k).segment = some .atEnd then (s.ctx k).acc else v * 64 := by
  have h' : (s.strand k).ctx.target = some v := h
  unfold State.stepTarget
  simp only [State.overridden_iff, h']
  rfl

/-- The candidate of a running strand: A in HOLDING, one step in RAMPING (R38, R39). -/
theorem State.candidate_eq {r : Nat} (h : (s.ctx k).running = true) (hr : (s.ctx k).rate = some r) : s.candidate k =
    if (s.ctx k).state = .holding then (s.ctx k).acc
    else if (s.ctx k).acc < s.stepTarget k then min ((s.ctx k).acc + r) (s.stepTarget k)
    else max ((s.ctx k).acc - r) (s.stepTarget k) := by
  unfold State.candidate stepTowards
  dsimp only
  rw [hr]
  rcases (Context.running_iff _).mp h with hs | hs
  · simp only [hs, if_true, reduceCtorEq, if_false, Option.getD_some]
    split
    · rfl
    · split
      · rfl
      · omega
  · simp only [hs, if_true, reduceCtorEq, if_false]

/-- Two states with one working image and one coordinator state, in which strand k differs in its dwell count alone, ask for the
same grant. -/
theorem State.ask_dwelt {s t : State} {n : Nat} (hw : t.working = s.working) (hc : t.change = s.change)
    (hk : t.strand k = { s.strand k with ctx := { s.ctx k with dwell := n } }) :
    t.candidate k = s.candidate k ∧ t.effectiveTable k = s.effectiveTable k := by
  have hctx : t.ctx k = { s.ctx k with dwell := n } := congrArg Strand.ctx hk
  have hover : t.overridden k = s.overridden k := by unfold State.overridden; rw [hctx, hc]
  have htarget : t.stepTarget k = s.stepTarget k := by
    unfold State.stepTarget
    rw [hk, hover]
    rfl
  constructor
  · unfold State.candidate
    rw [hctx, htarget]
  · unfold State.effectiveTable State.segmentOf State.profileOf State.plant
    rw [hk, hw]
    rfl

end

/-! ## Completion and close -/

section
variable {s : State} {k : StrandId} (i : Nat)

/-- The close of a pass raises alarms, moves the pointer and counts the deficit: no strand changes (R67, R70, R71). -/
theorem State.admissionPass_strand (s : State) : (s.admissionPass i).strand k = (s.passCompleted i).strand k := by
  have hpointer : ∀ won (t : State), (t.movePointer won).strand k = t.strand k := fun won t => by
    unfold State.movePointer
    split <;> rfl
  have hdeficit : ∀ t : State, t.countDeficit.strand k = t.strand k := fun t => by
    unfold State.countDeficit
    split
    · dsimp only
      split
      · exact State.strand_raise { t with deficit := satInc t.deficit } _ _ _ k
      · rfl
    · rfl
  rw [State.admissionPass_eq, hdeficit, (State.raiseStarved_near _ _).2 k, hpointer]

/-- What a pass leaves a strand is what its completion test makes of the results. -/
theorem State.admissionPass_completion (s : State) :
    ∃ t, State.near { s with budget := s.formBudget } t ∧ t.strand k = (s.passResults i).strand k
      ∧ (s.admissionPass i).strand k = (t.completionTest k).strand k := by
  obtain ⟨t, hn, hk, ht⟩ := State.completionTest_alone.strand_of_mem (orderBy_nodup (Config.strandRank i .completions))
    ((mem_orderBy _ _ _).mpr (mem_strandIds k)) (s.passResults i)
  exact ⟨t, State.near_trans (State.passResults_near i s) hn, hk, (State.admissionPass_strand i s).trans ht⟩

/-- The segment of a strand completes now (R42). -/
def State.completesNow (t : State) (k : StrandId) (g : Segment) : Prop :=
  (t.ctx k).state = .ramping ∧ (t.ctx k).enrolled = false ∧ t.completes k g = true

/-- At a segment the completion test compares A with the effective target (R42). -/
theorem State.completesNow_iff {t : State} {n : Fin 8} {v : Nat} (g : Segment) (hn : (t.ctx k).segment = some (.seg n))
    (hv : (t.ctx k).target = some v) : t.completesNow k g ↔
      (t.ctx k).state = .ramping ∧ (t.ctx k).enrolled = false ∧ (t.ctx k).acc = v * 64 ∧ g.minDwell ≤ (t.ctx k).dwell
        ∧ (g.confirm = true → (t.ctx k).confirmSeen = true) := by
  have htarget : (t.ctx k).enrolled = false → t.stepTarget k = v * 64 := fun he => by
    rw [State.stepTarget_eq hv, he, hn]
    simp
  unfold State.completesNow State.completes
  refine and_congr_right fun _ => and_congr_right fun he => ?_
  rw [htarget he]
  cases g.confirm <;> simp

/-- A completion test without completion changes nothing. -/
theorem State.completionTest_stays {t : State}
    (h : ∀ p n, (t.ctx k).profile = some p → (t.ctx k).segment = some (.seg n) → ¬ t.completesNow k (t.working.segment p n)) :
    t.completionTest k = t := by
  rcases State.completionTest_cases k t with ⟨h', -⟩ | ⟨p, n, hp, hn, hs, he, hc, -⟩
  · exact h'
  · exact absurd ⟨hs, he, hc⟩ (h p n hp hn)

section
variable {t : State} {p : ProfileId} {n : Fin 8}

/-- What completion does (R43 to R45, R146). -/
theorem State.completionTest_completes (hp : (t.ctx k).profile = some p) (hn : (t.ctx k).segment = some (.seg n))
    (h : t.completesNow k (t.working.segment p n)) :
    (∀ n', (t.working.segment p n).next = .seg n' → t.completionTest k = t.updCtx k fun c =>
        t.loadSegment (t.working.segment p n') { c with segment := some (.seg n'), dwell := 0, confirmSeen := false })
    ∧ ((t.working.segment p n).next = .atEnd → (t.working.profile p).endAction = .stay →
        t.completionTest k = (t.updCtx k fun c =>
          { c with segment := some .atEnd, dwell := 0, confirmSeen := false }).raise .profileEnd (some k) p.val)
    ∧ ((t.working.segment p n).next = .atEnd → (t.working.profile p).endAction = .handback →
        ((t.ctx k).shadow = false → t.completionTest k = t.upd k (Strand.enterHandback t.plant.blendBeats))
        ∧ ((t.ctx k).shadow = true →
          t.completionTest k = (t.upd k Strand.enterTracking).raise .handbackDone (some k) 1)) := by
  have hseg : t.segmentOf (t.ctx k) = some (t.working.segment p n) := by simp [State.segmentOf, hp, hn]
  rcases State.completionTest_cases k t with ⟨-, hno⟩ | ⟨p', n', hp', hn', -, -, -, hcases⟩
  · exact absurd h (hno _ hseg)
  · rw [hp, Option.some.injEq] at hp'
    rw [hn, Option.some.injEq, SegIndex.seg.injEq] at hn'
    subst hp' hn'
    rcases hcases with ⟨m, hm, ht⟩ | ⟨hm, he, ht⟩ | ⟨hm, he, hs, ht⟩ | ⟨hm, he, hs, ht⟩ <;> rw [ht, hm]
    · refine ⟨fun m' hm' => ?_, nofun, nofun⟩
      cases hm'
      exact State.enterSegment_eq m hp h.2.1
    · exact ⟨nofun, fun _ _ => rfl, fun _ he' => by rw [he] at he'; cases he'⟩
    · refine ⟨nofun, fun _ he' => (by rw [he] at he'; cases he'), fun _ _ => ⟨fun _ => rfl, fun hs' => ?_⟩⟩
      rw [hs] at hs'; cases hs'
    · refine ⟨nofun, fun _ he' => (by rw [he] at he'; cases he'), fun _ _ => ⟨fun hs' => ?_, fun _ => rfl⟩⟩
      rw [hs] at hs'; cases hs'

end

end

end Sys2Proof.Machine

/-! What an admission pass leaves a running strand with. -/

namespace Sys2Proof.Machine

/-- The records of a running strand after its ramp step to a with grant g (R38, R57, R65, R70). -/
def Strand.steppedTo (x : Strand) (a : Nat) (starved : Bool) (g : Grant) : Strand :=
  { x.regranted g with
    ctx := { x.ctx with
      acc := a, starved, starvedCount := if starved then min (x.ctx.starvedCount + 1) 65535 else 0
      dwell := if x.ctx.state = .ramping ∧ x.ctx.segment ≠ some .atEnd then min (x.ctx.dwell + 1) 65535 else x.ctx.dwell } }

section
variable {s : State} {k : StrandId} (i : Nat)

/-- What the results of a pass may leave a running strand: its candidate as asked, its candidate under the granted table below the
granted speed, or A and the grant as they were (R61 to R65). -/
def State.mayStep (s : State) (k : StrandId) (a : Nat) (starved : Bool) (g : Grant) : Prop :=
  starved = false ∧ a = s.candidate k ∧ g = s.grantFor (s.candidate k / 64) (s.effectiveTable k)
    ∨ starved = true ∧ a = s.candidate k ∧ s.candidate k / 64 < (s.strand k).held.speed
      ∧ (∃ n, (s.strand k).held.table = some n ∧ g = s.grantFor (s.candidate k / 64) n)
    ∨ starved = true ∧ a = (s.ctx k).acc ∧ g = (s.strand k).held

/-- The ramp step of a running strand at a pass. -/
theorem State.passResults_steps (h : (s.ctx k).running = true) :
    ∃ a starved g, s.mayStep k a starved g ∧ (s.passResults i).strand k = (s.strand k).steppedTo a starved g := by
  have hstate : (s.ctx k).state ≠ .handback := by
    rcases (Context.running_iff _).mp h with h | h <;> rw [h] <;> nofun
  have hnear := State.passDwelt_near i s
  have hstrand := State.passDwelt_strand i hstate
  rw [Context.countDwell_eq] at hstrand
  have hgrant : (s.passDwelt i).grantFor = s.grantFor := State.grantFor_near (s := { s with budget := s.formBudget }) hnear
  have hheld : ((s.passDwelt i).strand k).held = (s.strand k).held := by rw [hstrand]; rfl
  obtain ⟨hcand, htable⟩ : (s.passDwelt i).candidate k = s.candidate k ∧ (s.passDwelt i).effectiveTable k = s.effectiveTable k :=
    State.ask_dwelt (by unfold State.near at hnear; rw [hnear]) (by unfold State.near at hnear; rw [hnear]) hstrand
  obtain ⟨v, g, hmay, hres⟩ := State.passResults_strand i h
  rw [hres, hcand, Context.countDwell_eq]
  have hask : (s.passDwelt i).askOf k
      = { strand := k, cand := s.candidate k, grant := s.grantFor (s.candidate k / 64) (s.effectiveTable k) } := by
    unfold State.askOf
    rw [hcand, htable, hgrant]
  rw [State.mayAnswer, hask, hheld, hgrant] at hmay
  rcases hmay with ⟨rfl, rfl⟩ | ⟨rfl, hlt, n, hn, rfl⟩ | ⟨rfl, rfl⟩
  · exact ⟨_, false, _, .inl ⟨rfl, rfl, rfl⟩, rfl⟩
  · exact ⟨_, true, _, .inr (.inl ⟨rfl, rfl, hlt, n, hn, rfl⟩), rfl⟩
  · exact ⟨_, true, _, .inr (.inr ⟨rfl, rfl, rfl⟩), rfl⟩

/-- A strand in context c, with effective target v, completes segment g (R42). -/
def Segment.completedBy (g : Segment) (v : Nat) (c : Context) : Prop :=
  c.state = .ramping ∧ c.enrolled = false ∧ c.acc = v * 64 ∧ g.minDwell ≤ c.dwell ∧ (g.confirm = true → c.confirmSeen = true)

/-- The records of a strand after its completion test, in a state with the tables of s (R42 to R45, R146). -/
theorem State.completionTest_strand {t : State} {y : Strand} {p : ProfileId} {v : Nat}
    (hnear : State.near { s with budget := s.formBudget } t) (hy : t.strand k = y) (hp : y.ctx.profile = some p)
    (hv : y.ctx.target = some v) :
    let after := (t.completionTest k).strand k
    ((∀ n, y.ctx.segment = some (.seg n) → ¬ (s.working.segment p n).completedBy v y.ctx) → after = y)
    ∧ ∀ n, y.ctx.segment = some (.seg n) → (s.working.segment p n).completedBy v y.ctx →
      (∀ n', (s.working.segment p n).next = .seg n' → after = { y with
        ctx := s.loadSegment (s.working.segment p n') { y.ctx with segment := some (.seg n'), dwell := 0, confirmSeen := false } })
      ∧ ((s.working.segment p n).next = .atEnd → (s.working.profile p).endAction = .stay →
          after = { y with ctx := { y.ctx with segment := some .atEnd, dwell := 0, confirmSeen := false } })
      ∧ ((s.working.segment p n).next = .atEnd → (s.working.profile p).endAction = .handback →
          (y.ctx.shadow = false → after = y.enterHandback s.plant.blendBeats)
          ∧ (y.ctx.shadow = true → after = y.enterTracking)) := by
  have hctx : t.ctx k = y.ctx := congrArg Strand.ctx hy
  have hworking : t.working = s.working := by unfold State.near at hnear; rw [hnear]
  have hload : t.loadSegment = s.loadSegment := by unfold State.near at hnear; rw [hnear]; rfl
  have hcompletes : ∀ n, y.ctx.segment = some (.seg n) →
      (t.completesNow k (t.working.segment p n) ↔ (s.working.segment p n).completedBy v y.ctx) := fun n hn => by
    rw [State.completesNow_iff (n := n) (v := v) _ (by rw [hctx, hn]) (by rw [hctx, hv]), hctx, hworking]
    rfl
  rw [← hctx] at hp
  refine ⟨fun hno => ?_, fun n hn hcomp => ?_⟩
  · rw [State.completionTest_stays fun p' n hp' hn' => ?_, hy]
    rw [hp] at hp'
    cases hp'
    rw [hctx] at hn'
    exact fun hc => hno n hn' ((hcompletes n hn').mp hc)
  · obtain ⟨hseg, hstay, hback⟩ := State.completionTest_completes hp (by rw [hctx, hn]) ((hcompletes n hn).mpr hcomp)
    rw [hworking] at hseg hstay hback
    rw [hctx] at hback
    refine ⟨fun n' hn' => ?_, fun hend he => ?_, fun hend he => ⟨fun hs => ?_, fun hs => ?_⟩⟩
    · rw [hseg n' hn', hload, State.updCtx, State.strand_upd, if_pos rfl, hy]
    · rw [hstay hend he, State.strand_raise, State.updCtx, State.strand_upd, if_pos rfl, hy]
    · rw [(hback hend he).1 hs, State.strand_upd, if_pos rfl, hy, State.plant, hworking]
      rfl
    · rw [(hback hend he).2 hs, State.strand_raise, State.strand_upd, if_pos rfl, hy]

end

/-- A real run enters HANDBACK with the speed and flows that its last ramp step left (R45, R133). -/
theorem Strand.enterHandback_steppedTo {x : Strand} {a n : Nat} {starved : Bool} {g : Grant} (h : x.ctx.shadow = false) :
    (x.steppedTo a starved g).enterHandback n = { x.regranted g with
      ctx := { state := .handback }
      blend := some { startSpeed := a / 64, startFlows := g.flows, k := 0, n, claim := false } } := by
  have hg : (x.regranted g).grant = g := by rw [Strand.regranted, if_neg (ne_true_of_eq_false h)]
  change { x.regranted g with
    ctx := { state := .handback }
    blend := some { startSpeed := a / 64, startFlows := (x.regranted g).grant.flows, k := 0, n, claim := false } } = _
  rw [hg]

/-- A pass moves a running strand by one ramp step, with its answer, and completes its segment (R38, R42 to R45, R65). -/
theorem State.admissionPass_running {s : State} (i : Nat) {k : StrandId} {p : ProfileId} {v r : Nat}
    (hrun : (s.ctx k).running = true) (hp : (s.ctx k).profile = some p) (hv : (s.ctx k).target = some v)
    (hr : (s.ctx k).rate = some r) :
    let x := s.strand k
    let c := x.ctx
    let goal := if s.change = .lowering ∧ c.enrolled = true then x.mark.getD c.acc
      else if c.segment = some .atEnd then c.acc else v * 64
    let candidate := if c.state = .holding then c.acc else if c.acc < goal then min (c.acc + r) goal else max (c.acc - r) goal
    ∃ a starved g,
      (starved = false ∧ a = candidate ∧ g = s.grantFor (candidate / 64) (s.effectiveTable k)
        ∨ starved = true ∧ a = candidate ∧ candidate / 64 < x.held.speed
          ∧ (∃ n, x.held.table = some n ∧ g = s.grantFor (candidate / 64) n)
        ∨ starved = true ∧ a = c.acc ∧ g = x.held) ∧
      let y := x.steppedTo a starved g
      let after := (s.admissionPass i).strand k
      let completes := fun g : Segment =>
        c.state = .ramping ∧ c.enrolled = false ∧ a = goal ∧ g.minDwell ≤ min (c.dwell + 1) 65535
          ∧ (g.confirm = true → c.confirmSeen = true)
      ((∀ n, c.segment = some (.seg n) → ¬ completes (s.working.segment p n)) → after = y)
      ∧ ∀ n, c.segment = some (.seg n) → completes (s.working.segment p n) →
        (∀ n', (s.working.segment p n).next = .seg n' → after = { y with
          ctx := s.loadSegment (s.working.segment p n') { y.ctx with segment := some (.seg n'), dwell := 0, confirmSeen := false } })
        ∧ ((s.working.segment p n).next = .atEnd → (s.working.profile p).endAction = .stay →
            after = { y with ctx := { y.ctx with segment := some .atEnd, dwell := 0, confirmSeen := false } })
        ∧ ((s.working.segment p n).next = .atEnd → (s.working.profile p).endAction = .handback →
            (c.shadow = false → after = y.enterHandback s.plant.blendBeats)
            ∧ (c.shadow = true → after = y.enterTracking)) := by
  intro x c goal candidate
  have hgoal : s.stepTarget k = goal := State.stepTarget_eq hv
  have hcand : s.candidate k = candidate := by rw [State.candidate_eq hrun hr, hgoal]; rfl
  obtain ⟨a, starved, g, hmay, hres⟩ := State.passResults_steps i hrun
  obtain ⟨t, hnear, htk, hafter⟩ := State.admissionPass_completion (k := k) i s
  rw [State.mayStep, hcand] at hmay
  refine ⟨a, starved, g, hmay, ?_⟩
  intro y after completes
  have hcompletes : ∀ n, c.segment = some (.seg n) →
      (completes (s.working.segment p n) ↔ (s.working.segment p n).completedBy v y.ctx) := fun n hn => by
    have hdwell : c.state = .ramping → y.ctx.dwell = min (c.dwell + 1) 65535 := fun hs => if_pos ⟨hs, by rw [hn]; nofun⟩
    have hvgoal : c.enrolled = false → goal = v * 64 := fun he => by simp [goal, he, hn]
    refine and_congr_right fun hs => and_congr_right fun he => ?_
    rw [hdwell hs, hvgoal he]
    exact Iff.rfl
  obtain ⟨hstays, hmoves⟩ := State.completionTest_strand (y := y) hnear (htk.trans hres) hp hv
  rw [← hafter] at hstays hmoves
  exact ⟨fun hno => hstays fun n hn hc => hno n hn ((hcompletes n hn).mpr hc),
    fun n hn hc => hmoves n hn ((hcompletes n hn).mp hc)⟩

end Sys2Proof.Machine

/-! The alarms of an admission pass, and the pass of a beat as a whole (R43 to R45, R70, R71, R146). -/

namespace Sys2Proof.Machine

/-! ## What an alarm depends on -/

/-- The alarm queue, the counters and the beats: all that a raised alarm reads or changes. -/
def State.told (s : State) : List Alarm × Counters × BitVec 32 := (s.alarms, s.counters, s.beats)

/-- An alarm with its strand and detail, raised. -/
def State.tell (u : State) (a : AlarmKind × Option StrandId × Nat) : State := u.raise a.1 a.2.1 a.2.2

section
variable {s t : State}

theorem State.raise_told (h : s.told = t.told) (a : AlarmKind) (o : Option StrandId) (d : Nat) :
    (s.raise a o d).told = (t.raise a o d).told := by
  simp only [State.told, Prod.mk.injEq] at h
  obtain ⟨ha, hc, hb⟩ := h
  unfold State.raise State.told State.count
  rw [ha, hb]
  split <;> simp [hc]

theorem State.foldl_tell_told (h : s.told = t.told) (l : List (AlarmKind × Option StrandId × Nat)) :
    (l.foldl State.tell s).told = (l.foldl State.tell t).told := by
  induction l generalizing s t with
  | nil => exact h
  | cons a l ih => exact ih (State.raise_told h _ _ _)

theorem State.sameRest.told (h : s.sameRest t) : t.told = s.told := by
  unfold State.sameRest at h; rw [h]; rfl

end

/-! ## The alarms of the close -/

/-- The STARVED alarms of a pass (R70). -/
def starvedAlarms (l : List (StrandId × Bool)) : List (AlarmKind × Option StrandId × Nat) :=
  l.map fun ks => (.starved, some ks.1, if ks.2 then 1 else 0)

theorem State.raiseStarved_eq (l : List (StrandId × Bool)) (s : State) : s.raiseStarved l = (starvedAlarms l).foldl State.tell s := by
  unfold State.raiseStarved starvedAlarms
  rw [List.foldl_map]
  rfl

theorem starvedAlarms_kind {l : List (StrandId × Bool)} {a : AlarmKind × Option StrandId × Nat} (h : a ∈ starvedAlarms l) :
    a.1 = .starved := by
  obtain ⟨ks, -, rfl⟩ := List.mem_map.mp h
  rfl

/-- The close of a pass raises STARVED alarms and then a DEFICIT alarm at most (R70, R71). -/
theorem State.close_told (won : List StrandId) (l : List (StrandId × Bool)) (s : State) :
    ∃ late : List (AlarmKind × Option StrandId × Nat), (∀ a ∈ late, a.1 = .starved ∨ a.1 = .deficit)
      ∧ (((s.movePointer won).raiseStarved l).countDeficit).told = (late.foldl State.tell s).told := by
  have pointer : (s.movePointer won).told = s.told := by
    unfold State.movePointer
    split <;> rfl
  have starved := State.foldl_tell_told pointer (starvedAlarms l)
  rw [← State.raiseStarved_eq] at starved
  generalize (s.movePointer won).raiseStarved l = t at starved ⊢
  by_cases hd : t.budget < t.grantedTotal ∧ t.deficit + 1 = t.plant.deficitLimit
  · refine ⟨starvedAlarms l ++ [(.deficit, none, sat16 (t.grantedTotal - t.budget))], fun a ha => ?_, ?_⟩
    · rcases List.mem_append.mp ha with h | h
      · exact .inl (starvedAlarms_kind h)
      · rw [List.mem_singleton.mp h]; exact .inr rfl
    · rw [List.foldl_append, State.countDeficit, if_pos hd.1]
      dsimp only
      rw [if_pos hd.2]
      exact State.raise_told (s := { t with deficit := satInc t.deficit }) starved _ _ _
  · refine ⟨starvedAlarms l, fun a ha => .inl (starvedAlarms_kind ha), Eq.trans ?_ starved⟩
    unfold State.countDeficit
    split
    · next h => dsimp only; rw [if_neg fun h' => hd ⟨h, h'⟩]; rfl
    · rfl

/-- The close of a pass keeps its budget. -/
theorem State.close_budget (won : List StrandId) (l : List (StrandId × Bool)) (s : State) :
    (((s.movePointer won).raiseStarved l).countDeficit).budget = s.budget := by
  have pointer : (s.movePointer won).budget = s.budget := by
    unfold State.movePointer
    split <;> rfl
  have starved : ((s.movePointer won).raiseStarved l).budget = (s.movePointer won).budget := by
    have h := (State.raiseStarved_near l (s.movePointer won)).1
    unfold State.near at h
    rw [h]
  rw [← pointer, ← starved]
  unfold State.countDeficit
  split
  · dsimp only
    split
    · exact State.raise_budget _ _ _ _
    · rfl
  · rfl

/-! ## The alarms of the completion tests -/

/-- The alarm of a completion, from a strand's contexts before and after the pass: PROFILE_END of a run that comes to END (R44),
HANDBACK_DONE with detail 1 of a shadow run that ends (R146), none of another (R43, R133). -/
def Context.tellCompletion (before after : Context) (k : StrandId) (u : State) : State :=
  match before.profile, before.segment with
  | some p, some (.seg _) =>
    if before.running ∧ after.running ∧ after.segment = some .atEnd then u.raise .profileEnd (some k) p.val
    else if before.shadowRun ∧ after.state = .tracking then u.raise .handbackDone (some k) 1
    else u
  | _, _ => u

/-- A strand runs at d what it runs at c, or does not run at either. -/
structure Context.sameRun (c d : Context) : Prop where
  running : d.running = c.running
  profile : c.running = true → d.profile = c.profile
  segment : c.running = true → d.segment = c.segment
  shadow : c.running = true → d.shadow = c.shadow

section
variable {c d : Context} {k : StrandId} {u : State}

/-- A strand without a run to complete has no alarm. -/
theorem Context.tellCompletion_idle (h : c.running = false) : c.tellCompletion d k u = u := by
  have hs : ¬ c.shadowRun = true := fun hs => by rw [((Context.shadowRun_iff _).mp hs).1] at h; cases h
  unfold Context.tellCompletion
  split
  · rw [if_neg (by simp [h]), if_neg fun hd => hs hd.1]
  · rfl

/-- A run that is in a segment after the pass has no alarm. -/
theorem Context.tellCompletion_runs (hr : d.running = true) (hs : c.segment = some .atEnd ∨ d.segment ≠ some .atEnd) :
    c.tellCompletion d k u = u := by
  have ht : d.state ≠ .tracking := fun ht => by simp [Context.running, ht] at hr
  unfold Context.tellCompletion
  split
  · next hseg =>
    have hd : d.segment ≠ some .atEnd := hs.resolve_left (by rw [hseg]; nofun)
    rw [if_neg fun h => hd h.2.2, if_neg fun h => ht h.2]
  · rfl

end

/-- The alarm of a completion test is that of the contexts before and after it. -/
theorem State.completionTest_told {w u : State} {c : Context} {k : StrandId} (hc : c.sameRun (w.ctx k)) (h : w.told = u.told) :
    (w.completionTest k).told = (c.tellCompletion ((w.completionTest k).ctx k) k u).told := by
  rcases State.completionTest_cases k w with
    ⟨ht, -⟩ | ⟨p, n, hp, hn, hs, he, -, ⟨n', -, ht⟩ | ⟨-, -, ht⟩ | ⟨-, -, hsh, ht⟩ | ⟨-, -, hsh, ht⟩⟩
  · rw [ht]
    cases hr : c.running with
    | false => rw [Context.tellCompletion_idle hr]; exact h
    | true =>
      rw [Context.tellCompletion_runs (hc.running.trans hr)]
      · exact h
      · rw [hc.segment hr]
        exact em _
  all_goals
    have hwr : (w.ctx k).running = true := (Context.running_iff _).mpr (.inl hs)
    have hr : c.running = true := hc.running.symm.trans hwr
    have hcp : c.profile = some p := (hc.profile hr).symm.trans hp
    have hcn : c.segment = some (.seg n) := (hc.segment hr).symm.trans hn
    rw [ht]
  · rw [State.enterSegment_eq n' hp he, State.ctx_updCtx, if_pos rfl, Context.tellCompletion_runs]
    · exact h
    · exact hwr
    · exact .inr (by simp [State.loadSegment])
  · unfold Context.tellCompletion
    rw [hcp, hcn, State.ctx, State.strand_raise, ← State.ctx, State.ctx_updCtx, if_pos rfl]
    dsimp only
    rw [if_pos ⟨hr, hwr, rfl⟩]
    exact State.raise_told (s := w.updCtx k _) h _ _ _
  · have hshadow := hc.shadow hr
    have hcs : ¬ c.shadowRun = true := fun hs' => by
      rw [((Context.shadowRun_iff _).mp hs').2, hsh] at hshadow; cases hshadow
    unfold Context.tellCompletion
    rw [hcp, hcn, State.ctx, State.strand_upd, if_pos rfl]
    dsimp only
    rw [if_neg (by simp [Strand.enterHandback, Context.toHandback, Context.running]), if_neg fun hd => hcs hd.1]
    exact h
  · have hcs : c.shadowRun = true := (Context.shadowRun_iff _).mpr ⟨hr, (hc.shadow hr).symm.trans hsh⟩
    unfold Context.tellCompletion
    rw [hcp, hcn, State.ctx, State.strand_raise, State.strand_upd, if_pos rfl]
    dsimp only
    rw [if_neg (by simp [Strand.enterTracking, Context.toTracking, Context.running]), if_pos ⟨hcs, rfl⟩]
    exact State.raise_told (s := w.upd k _) h _ _ _

/-- The alarms of the completion tests of several strands, from the contexts before the pass and after the tests. -/
theorem State.completionTests_told {before after : StrandId → Context} {l : List StrandId} (hn : l.Nodup) {w u : State}
    (hb : ∀ k ∈ l, (before k).sameRun (w.ctx k)) (ha : ∀ k ∈ l, after k = (forStrands l State.completionTest w).ctx k)
    (h : w.told = u.told) : (forStrands l State.completionTest w).told
      = (l.foldl (fun u k => (before k).tellCompletion (after k) k u) u).told := by
  induction l generalizing w u with
  | nil => exact h
  | cons k l ih =>
    obtain ⟨hk, hn⟩ := List.nodup_cons.mp hn
    have hafter : after k = (w.completionTest k).ctx k :=
      (ha k List.mem_cons_self).trans (congrArg Strand.ctx (State.completionTest_alone.strand_of_not_mem hk _))
    refine ih (u := (before k).tellCompletion (after k) k u) hn (fun j hj => ?_) (fun j hj => ha j (List.mem_cons_of_mem _ hj)) ?_
    · have hjk : j ≠ k := fun e => hk (e ▸ hj)
      rw [State.ctx, (State.completionTest_near k w).2 j hjk]
      exact hb j (List.mem_cons_of_mem _ hj)
    · rw [hafter]
      exact State.completionTest_told (hb k List.mem_cons_self) h

/-! ## The pass -/

section
variable (i : Nat) (s : State)

theorem State.passResults_moves : s.moves (s.passResults i) := by
  have h1 : s.moves { s with budget := s.formBudget } := State.moves_of_strands rfl rfl
  have h2 : s.moves (s.passBlended i) := h1.trans (forStrands_moves _ _ _ fun k _ t _ => State.blendStep_moves k t)
  have h3 : s.moves (s.passDwelt i) := h2.trans (forStrands_moves _ _ _ fun k _ t _ => State.countDwell_moves k t)
  exact h3.trans (State.results_moves _)

theorem State.passResults_sameRun (k : StrandId) : (s.ctx k).sameRun ((s.passResults i).ctx k) := by
  cases hr : (s.ctx k).running with
  | true =>
    obtain ⟨a, starved, g, -, hs⟩ := State.passResults_steps i hr
    rw [State.ctx, State.ctx, hs]
    exact ⟨rfl, fun _ => rfl, fun _ => rfl, fun _ => rfl⟩
  | false =>
    have hstill : ((s.passResults i).ctx k).running = false := by
      by_contra h
      rw [Bool.not_eq_false] at h
      have := (((State.passResults_moves i s).strands k).keepsCommand h).1
      rw [← State.ctx, hr] at this
      cases this
    have idle : ∀ {q : Prop}, (s.ctx k).running = true → q := fun h => by rw [hr] at h; cases h
    exact ⟨hstill.trans hr.symm, idle, idle, idle⟩

/-- The phases and results of a pass raise no alarm. -/
theorem State.passResults_told : (s.passResults i).told = (s.passBlended i).told := by
  have dwelt : (s.passDwelt i).told = (s.passBlended i).told := by rw [State.passDwelt_eq]; rfl
  exact (((State.phases_sameRest _).trans (State.takeResults_sameRest _ _)).told).trans dwelt

theorem State.admissionPass_budget : (s.admissionPass i).budget = s.formBudget := by
  have hnear : State.near { s with budget := s.formBudget } (s.passCompleted i) :=
    State.near_trans (State.passResults_near i s) (State.completionTest_alone.near _ _)
  rw [State.admissionPass_eq, State.close_budget]
  unfold State.near at hnear
  rw [hnear]

end

/-- Settles O16: the ramp step of a running strand, and the alarms of the pass in their stages. -/
theorem passMovesRunningStrandsOneStep : Obligations.PassMovesRunningStrandsOneStep := by
  constructor
  · intro s i k p v r x c hrun hp hv hr goal candidate held
    obtain ⟨a, starved, g, hmay, hstays, hcompletes⟩ := State.admissionPass_running i hrun hp hv hr
    refine ⟨a, starved, g, hmay, hstays, fun n hn hc => ?_⟩
    obtain ⟨hseg, hstay, hback⟩ := hcompletes n hn hc
    exact ⟨hseg, hstay, fun hend he =>
      ⟨fun hs => ((hback hend he).1 hs).trans (Strand.enterHandback_steppedTo hs), (hback hend he).2⟩⟩
  · intro s i t
    have hblended : forStrands (orderBy (Config.strandRank i .blendSteps) strandIds) State.blendStep { s with budget := t.budget }
        = s.passBlended i := by rw [State.admissionPass_budget]; rfl
    have hcompleted := State.completionTests_told (before := s.ctx) (after := t.ctx)
      (orderBy_nodup (Config.strandRank i .completions)) (fun k _ => State.passResults_sameRun i s k)
      (fun k _ => congrArg Strand.ctx (State.admissionPass_strand i s)) (State.passResults_told i s)
    obtain ⟨late, hkinds, hlate⟩ := State.close_told (s.passDwelt i).phases.won (s.passStarving i) (s.passCompleted i)
    have htold : t.told = _ := hlate.trans (State.foldl_tell_told hcompleted late)
    simp only [State.told, Prod.mk.injEq] at htold
    refine ⟨_, _, orderBy_perm (Config.strandRank i .blendSteps) strandIds,
      orderBy_perm (Config.strandRank i .completions) strandIds, ?_⟩
    rw [hblended]
    exact ⟨late, hkinds, htold.1, htold.2.1⟩

end Sys2Proof.Machine

/-! Cooling demand, the requests SET_ARBITER and COOL_PIN, and the rows STARVED and DEFICIT (R51 to R53, R67, R68, R70, R71). -/

namespace Sys2Proof.Machine

/-! ## Cooling demand -/

/-- No zone flow falls as the speed rises: each step of R52 is monotone. -/
theorem zoneFlow_mono {v v' : Nat} (h : v ≤ v') (z : CoolZone) (floor ceiling : Nat) :
    zoneFlow v z floor ceiling ≤ zoneFlow v' z floor ceiling := by
  have product : z.coef * v ≤ z.coef * v' := Nat.mul_le_mul_left _ h
  have rounded : (z.coef * v + 500) / 1000 ≤ (z.coef * v' + 500) / 1000 := Nat.div_le_div_right (by omega)
  unfold zoneFlow
  dsimp only
  omega

theorem zoneFlow_le_ceiling (v : Nat) (z : CoolZone) (floor ceiling : Nat) : zoneFlow v z floor ceiling ≤ ceiling :=
  Nat.min_le_right _ _

/-- The four zone flows at two speeds (R52). -/
theorem State.zoneFlows_mono (s : State) (t : TableId) {v v' : Nat} (h : v ≤ v') :
    (s.zoneFlows v t).z1 ≤ (s.zoneFlows v' t).z1 ∧ (s.zoneFlows v t).z2 ≤ (s.zoneFlows v' t).z2
      ∧ (s.zoneFlows v t).z3 ≤ (s.zoneFlows v' t).z3 ∧ (s.zoneFlows v t).z4 ≤ (s.zoneFlows v' t).z4 :=
  ⟨zoneFlow_mono h _ _ _, zoneFlow_mono h _ _ _, zoneFlow_mono h _ _ _, zoneFlow_mono h _ _ _⟩

/-- For a fixed table, D does not decrease as v rises (R53). -/
theorem State.demand_mono (s : State) (t : TableId) {v v' : Nat} (h : v ≤ v') : s.demand v t ≤ s.demand v' t := by
  obtain ⟨h1, h2, h3, h4⟩ := s.zoneFlows_mono t h
  exact Nat.add_le_add (Nat.add_le_add (Nat.add_le_add h1 h2) h3) h4

/-- The ceilings in force are at most 4000, those of an absent limits table being 0 (R162). -/
theorem State.ceiling_le {s : State} (h : ∀ l, s.working.limitsFlow = some l → l.sound) :
    s.lim.flow.ceiling.z1 ≤ 4000 ∧ s.lim.flow.ceiling.z2 ≤ 4000 ∧ s.lim.flow.ceiling.z3 ≤ 4000 ∧ s.lim.flow.ceiling.z4 ≤ 4000 := by
  unfold State.lim State.limits Image.limits
  split
  · next b _ hb =>
    obtain ⟨⟨-, -, h1⟩, ⟨-, -, h2⟩, ⟨-, -, h3⟩, -, -, h4⟩ := h b hb
    exact ⟨h1, h2, h3, h4⟩
  · exact ⟨Nat.zero_le _, Nat.zero_le _, Nat.zero_le _, Nat.zero_le _⟩

/-- Four zones of at most 4000 each (R53). -/
theorem State.demand_le {s : State} (h : ∀ l, s.working.limitsFlow = some l → l.sound) (v : Nat) (t : TableId) :
    s.demand v t ≤ 16000 := by
  obtain ⟨h1, h2, h3, h4⟩ := State.ceiling_le h
  exact Nat.add_le_add (Nat.add_le_add (Nat.add_le_add ((zoneFlow_le_ceiling _ _ _ _).trans h1)
    ((zoneFlow_le_ceiling _ _ _ _).trans h2)) ((zoneFlow_le_ceiling _ _ _ _).trans h3)) ((zoneFlow_le_ceiling _ _ _ _).trans h4)

/-- Settles O14: each zone flow rises with the speed, and so does their sum, which the four ceilings bound. -/
theorem demandRisesWithSpeed : Obligations.DemandRisesWithSpeed := by
  intro s t v v' h
  obtain ⟨h1, h2, h3, h4⟩ := s.zoneFlows_mono t h
  exact ⟨h1, h2, h3, h4, s.demand_mono t h, rfl, fun hl => State.demand_le hl v t⟩

/-! ## SET_ARBITER -/

section
variable {s : State} {mode : Word} {pr : Vector Word 8}

theorem setArbiterBody_busy (h : s.op ≠ .idle) : setArbiterBody mode pr s = .error .busy :=
  if_pos (by simpa [State.busy] using h)

/-- A mode above 1 or a priority above 3 is refused (R68). -/
theorem setArbiterBody_range (h : s.op = .idle) (hr : 1 < mode.toNat ∨ ∃ k : StrandId, 3 < (pr[k]).toNat) :
    setArbiterBody mode pr s = .error .range := by
  unfold setArbiterBody
  rw [if_neg (by simp [State.busy, h])]
  cases hm : flagWord mode with
  | none => rfl
  | some rotating =>
    obtain ⟨k, hk⟩ := hr.resolve_left (Nat.not_lt.mpr (flagWord_eq_some.mp hm).1)
    exact if_pos (List.any_eq_true.mpr ⟨k, mem_strandIds k, decide_eq_true hk⟩)

/-- What SET_ARBITER sets (R67, R68). -/
theorem setArbiterBody_sets (h : s.op = .idle) (hm : mode.toNat ≤ 1) (hp : ∀ k : StrandId, (pr[k]).toNat ≤ 3) :
    setArbiterBody mode pr s = .ok (s.setConfig fun c =>
      { c with mode := if mode = 0 then .fixed else .rotating, priorities := Vector.ofFn fun k => (pr[k]).toNat }, []) := by
  have low : (strandIds.any fun k => decide (3 < (pr[k]).toNat)) = false :=
    List.any_eq_false.mpr fun k _ => by simpa using hp k
  have order : (if decide (mode ≠ 0) = true then ArbiterMode.rotating else .fixed) = if mode = 0 then .fixed else .rotating := by
    by_cases h0 : mode = 0 <;> simp [h0]
  unfold setArbiterBody
  rw [if_neg (by simp [State.busy, h]), flagWord_eq_some.mpr ⟨hm, rfl⟩]
  dsimp only
  rw [low, order]
  rfl

end

/-! ## COOL_PIN -/

section
variable {s : State} {t : Word} {k : StrandId}

theorem coolPinBody_unpins (h : t = 255) : coolPinBody t k s = .ok (s.upd k fun x => { x with pin := none }, []) := by
  subst h; rfl

theorem optionalTable_eq_some {n : TableId} (h : t.toNat = n.val) : optionalTable t = some (some n) := by
  have present : t ≠ 255 := fun e => by
    have := n.isLt
    rw [e] at h
    change 255 = n.val at h
    omega
  rw [optionalTable, if_neg present, tableNumber_eq_some.mpr h]
  rfl

theorem coolPinBody_pins {n : TableId} (h : t.toNat = n.val) (hv : (s.working.tables[n]).valid = true) :
    coolPinBody t k s = .ok (s.upd k fun x => { x with pin := some n }, []) := by
  unfold coolPinBody
  rw [optionalTable_eq_some h]
  exact if_pos hv

/-- A number above 15 that is not 255, and the number of a table that is not valid, are refused (R51). -/
theorem coolPinBody_range (h : t ≠ 255) (hv : ∀ n : TableId, t.toNat = n.val → (s.working.tables[n]).valid = false) :
    coolPinBody t k s = .error .range := by
  unfold coolPinBody
  cases hn : tableNumber t with
  | none => rw [optionalTable, if_neg h, hn]; rfl
  | some n =>
    have named := tableNumber_eq_some.mp hn
    rw [optionalTable_eq_some named]
    exact if_neg (ne_true_of_eq_false (hv n named))

end

/-- Settles O13: the checks of each owning rule, and what it sets. -/
theorem arbiterSettings : Obligations.ArbiterSettings := by
  refine ⟨fun s q mode pr ha => ⟨fun h => ?_, fun h hr => ?_, fun h hm hp => ?_⟩,
    fun s q w t k ha hn => ⟨fun h => State.answer_named 9 ha hn (coolPinBody_unpins h),
      fun n h hv => State.answer_named 9 ha hn (coolPinBody_pins h hv),
      fun h hv => State.answer_refused 9 ha hn (coolPinBody_range h hv)⟩⟩
  · exact congrArg Host.Outcome.next (State.answer_error ha (setArbiterBody_busy h))
  · exact congrArg Host.Outcome.next (State.answer_error ha (setArbiterBody_range h hr))
  · exact congrArg Host.Outcome.next (State.answer_ok ha (setArbiterBody_sets h hm hp))

/-! ## STARVED and DEFICIT -/

/-- Settles O17: the guard of each row is the premise of its clause. -/
theorem starvedAndDeficitAlarms : Obligations.StarvedAndDeficitAlarms := by
  constructor
  · intro s k x hrun hlimit
    exact congrArg Host.Outcome.next (if_pos ⟨hrun, hlimit⟩)
  · intro s hover hlimit
    have counted : s.countDeficit = { s with deficit := min (s.deficit + 1) 65535 }.raise .deficit none
        (min (s.grantedTotal - s.budget) 65535) := (if_pos hover).trans (if_pos hlimit)
    exact congrArg Host.Outcome.next ((if_pos ⟨hover, hlimit⟩).trans counted)

end Sys2Proof.Machine

/-! The requests of an admission pass: the arbiter order, who is admitted within the budget, and what each phase leaves (R61 to R67). -/

namespace Sys2Proof.Machine

/-! ## The arbiter order -/

/-- By rank, and within one rank by R. -/
def rankedBy {α : Type} (rank : α → Nat) (R : α → α → Prop) (a b : α) : Prop := rank a < rank b ∨ rank a = rank b ∧ R a b

theorem insertBy_pairwise {α : Type} {rank : α → Nat} {R : α → α → Prop} {x : α} {l : List α} (hx : ∀ y ∈ l, R x y)
    (h : l.Pairwise (rankedBy rank R)) : (insertBy rank x l).Pairwise (rankedBy rank R) := by
  induction l with
  | nil => exact List.pairwise_singleton _ _
  | cons y ys ih =>
    obtain ⟨hy, hys⟩ := List.pairwise_cons.mp h
    unfold insertBy
    split
    · next hle =>
      refine List.pairwise_cons.mpr ⟨fun z hz => ?_, h⟩
      have hyz : rank y ≤ rank z := by
        rcases List.mem_cons.mp hz with rfl | hz'
        · exact Nat.le_refl _
        · rcases hy z hz' with hlt | ⟨heq, -⟩ <;> omega
      rcases Nat.lt_or_eq_of_le (hle.trans hyz) with hlt | heq
      · exact .inl hlt
      · exact .inr ⟨heq, hx z hz⟩
    · next hgt =>
      refine List.pairwise_cons.mpr ⟨fun z hz => ?_, ih (fun z hz => hx z (List.mem_cons_of_mem _ hz)) hys⟩
      rcases List.mem_cons.mp ((insertBy_perm rank x ys).mem_iff.mp hz) with rfl | hz'
      · exact .inl (Nat.not_le.mp hgt)
      · exact hy z hz'

/-- Ordering by rank is stable. -/
theorem orderBy_pairwise {α : Type} (rank : α → Nat) {R : α → α → Prop} {l : List α} (h : l.Pairwise R) :
    (orderBy rank l).Pairwise (rankedBy rank R) := by
  induction h with
  | nil => exact .nil
  | cons hx _ ih => exact insertBy_pairwise (fun y hy => hx y ((mem_orderBy rank _ y).mp hy)) ih

theorem strandIds_pairwise : strandIds.Pairwise (· < ·) := by decide

/-- The arbiter order at FIXED: by priority, and within one priority by strand number (R67). -/
theorem State.arbiterOrder_fixed {s : State} (h : s.working.config.mode = .fixed) :
    s.arbiterOrder = orderBy (fun k => s.working.config.priorities[k]) strandIds := by
  unfold State.arbiterOrder
  rw [h]

/-- The arbiter order at ROTATING: from the pointer upwards modulo 8 (R67). -/
theorem State.arbiterOrder_rotating {s : State} (h : s.working.config.mode = .rotating) :
    s.arbiterOrder.map (fun k => k.val) = (List.range 8).map fun n => (s.pointer.val + n) % 8 := by
  have rotated : ∀ p : Fin 8, (strandIds.map fun k => p + k).map (fun k => k.val) = (List.range 8).map fun n => (p.val + n) % 8 := by
    decide
  unfold State.arbiterOrder
  rw [h]
  exact rotated _

theorem State.arbiterOrder_perm (s : State) : s.arbiterOrder.Perm strandIds :=
  (List.perm_ext_iff_of_nodup s.arbiterOrder_nodup strandIds_nodup).mpr fun k =>
    iff_of_true (s.mem_arbiterOrder k) (mem_strandIds k)

/-! ## Requests one after another -/

section
variable {s : State} {f : PassPoint → Ask → PassPoint} {k : StrandId} {l r : List StrandId}

/-- Where a phase reaches strand k: the requests before k and those after it spare k. -/
theorem PassPoint.ownOnly.foldl_split (hf : PassPoint.ownOnly f) (hn : (l ++ k :: r).Nodup) (p : PassPoint) :
    p.spares k ((l.map s.askOf).foldl f p)
      ∧ (f ((l.map s.askOf).foldl f p) (s.askOf k)).spares k (((l ++ k :: r).map s.askOf).foldl f p) := by
  rw [List.nodup_append, List.nodup_cons] at hn
  obtain ⟨-, ⟨hr, -⟩, hlr⟩ := hn
  refine ⟨hf.foldl_spares (fun h => hlr k h k List.mem_cons_self rfl) p, ?_⟩
  rw [List.map_append, List.map_cons, List.foldl_append, List.foldl_cons]
  exact hf.foldl_spares hr _

/-- What every step of a phase keeps, the phase keeps. -/
theorem PassPoint.foldl_keeps {α : Type} {part : PassPoint → α} (hf : ∀ p a, part (f p a) = part p) (asks : List Ask)
    (p : PassPoint) : part (asks.foldl f p) = part p := by
  induction asks generalizing p with
  | nil => rfl
  | cons a asks ih => exact (ih _).trans (hf p a)

end

theorem PassPoint.visit_sum (budget : Nat) (p : PassPoint) (a : Ask) : (p.visit budget a).sum = p.sum := by
  unfold PassPoint.visit
  split <;> rfl

/-- Phase 4 grants no increasing request as asked, and adds nothing to the shadow sum. -/
theorem PassPoint.fallBack_won_sum (p : PassPoint) (a : Ask) : (p.fallBack a).won = p.won ∧ (p.fallBack a).sum = p.sum := by
  unfold PassPoint.fallBack
  dsimp only
  split
  · split <;> exact ⟨rfl, rfl⟩
  · exact ⟨rfl, rfl⟩

theorem PassPoint.visitShadow_won (budget : Nat) (p : PassPoint) (a : Ask) : (p.visitShadow budget a).won = p.won := by
  unfold PassPoint.visitShadow
  dsimp only
  split
  · rfl
  · split
    · split <;> rfl
    · rfl

/-! ## The granted total -/

section
variable {s t : State}

/-- Strand by strand no more granted, no more granted in all (R59). -/
theorem State.grantedTotal_mono (h : ∀ k, (t.strand k).granted ≤ (s.strand k).granted) : t.grantedTotal ≤ s.grantedTotal :=
  List.sum_le_sum fun k _ => h k

theorem State.grantedTotal_congr (h : ∀ k, (t.strand k).granted = (s.strand k).granted) : t.grantedTotal = s.grantedTotal :=
  congrArg List.sum (List.map_congr_left fun k _ => h k)

/-- A grant to a driving strand takes the old demand out of the granted total and puts the new one in (R59, R62). -/
theorem State.setGrant_grantedTotal {k : StrandId} (h : (s.ctx k).driving = true) (g : Grant) :
    (s.setGrant k g).grantedTotal = s.grantedTotal - (s.strand k).grant.demand + g.demand := by
  have granted : (s.strand k).granted = (s.strand k).grant.demand := if_pos h
  have kept : ∀ j, (((s.setGrant k g).strand j).granted) = if j = k then g.demand else (s.strand j).granted := fun j => by
    unfold State.setGrant
    rw [State.strand_upd]
    split
    · exact if_pos h
    · rfl
  have total : ∀ F : StrandId → Nat, (strandIds.map F).sum = F k + ((strandIds.erase k).map F).sum := fun F => by
    rw [((List.perm_cons_erase (mem_strandIds k)).map F).sum_eq]
    rfl
  have others : ((strandIds.erase k).map fun j => ((s.setGrant k g).strand j).granted)
      = (strandIds.erase k).map fun j => (s.strand j).granted := List.map_congr_left fun j hj => by
    rw [kept, if_neg (strandIds_nodup.mem_erase_iff.mp hj).1]
  unfold State.grantedTotal
  rw [total, total fun j => (s.strand j).granted, others, kept, if_pos rfl, granted]
  omega

/-- A grant to a strand that does not drive is not in the granted total (R59). -/
theorem State.setGrant_idle {k : StrandId} (h : (s.ctx k).driving = false) (g : Grant) :
    (s.setGrant k g).grantedTotal = s.grantedTotal := State.grantedTotal_congr fun j => by
  have idle : ∀ x : Strand, x.ctx = s.ctx k → x.granted = 0 := fun x hx => if_neg (by rw [hx]; exact ne_true_of_eq_false h)
  unfold State.setGrant
  rw [State.strand_upd]
  split
  · next hj => exact (idle { s.strand k with grant := g } rfl).trans (idle _ (congrArg s.ctx hj)).symm
  · rfl

/-- A shadow grant is not in the granted total (R59). -/
theorem State.setShadowGrant_grantedTotal (k : StrandId) (g : Grant) : (s.setShadowGrant k g).grantedTotal = s.grantedTotal :=
  State.grantedTotal_congr fun j => by
    unfold State.setShadowGrant
    rw [State.strand_upd]
    split
    · next hj => rw [hj]; rfl
    · rfl

end

theorem PassPoint.visitShadow_grantedTotal (budget : Nat) (p : PassPoint) (a : Ask) :
    (p.visitShadow budget a).state.grantedTotal = p.state.grantedTotal := by
  unfold PassPoint.visitShadow
  dsimp only
  split
  · exact State.setShadowGrant_grantedTotal _ _
  · split
    · split
      · exact State.setShadowGrant_grantedTotal _ _
      · rfl
    · rfl

/-- The shadow phase does not bring G + S above the budget (R64). -/
theorem PassPoint.visitShadow_bound {budget : Nat} {p : PassPoint} (h : p.sum = 0 ∨ p.state.grantedTotal + p.sum ≤ budget) (a : Ask) :
    (p.visitShadow budget a).sum = 0 ∨ (p.visitShadow budget a).state.grantedTotal + (p.visitShadow budget a).sum ≤ budget := by
  rw [PassPoint.visitShadow_grantedTotal]
  unfold PassPoint.visitShadow
  dsimp only
  split
  · next hroom => exact .inr ((Nat.add_assoc _ _ _).symm.trans_le hroom)
  · split
    · split
      · next hroom => exact .inr ((Nat.add_assoc _ _ _).symm.trans_le hroom.2)
      · exact h
    · exact h

/-- Phase 3 does not bring G above the budget: it grants within it, or leaves G as it was (R62). -/
theorem PassPoint.visit_bound (budget : Nat) (p : PassPoint) (a : Ask) :
    (p.visit budget a).state.grantedTotal ≤ max budget p.state.grantedTotal := by
  unfold PassPoint.visit
  split
  · next hroom =>
    cases hd : (p.state.ctx a.strand).driving with
    | true => exact ((State.setGrant_grantedTotal hd a.grant).trans_le hroom).trans (Nat.le_max_left _ _)
    | false => exact (State.setGrant_idle hd a.grant).trans_le (Nat.le_max_right _ _)
  · exact Nat.le_max_right _ _

/-! ## Phases 2 and 3 -/

section
variable (s : State)

/-- A real run whose request is increasing (R60). -/
def State.rising (k : StrandId) : Bool := (s.ctx k).realRun && s.increasing (s.askOf k)

/-- A real run whose request is not increasing (R60). -/
def State.easy (k : StrandId) : Bool := (s.ctx k).realRun && !s.rising k

/-- Phase 3 grants the request of strand k. -/
def State.wins (k : StrandId) : Bool := s.phase3.won.contains k

/-- Where phase 3 stands after the requests of the strands in l. -/
def State.phase3At (l : List StrandId) : PassPoint := (l.map s.askOf).foldl (PassPoint.visit s.budget) s.phase2

/-- The granted total with the easy requests granted, and those of the strands seen that phase 3 grants (R61, R62). -/
def State.totalAfter (seen : List StrandId) : Nat :=
  (strandIds.map fun j =>
    if s.easy j || s.wins j && seen.contains j then (s.askOf j).grant.demand
    else if (s.ctx j).driving then (s.strand j).grant.demand else 0).sum

end

section
variable {s : State} {k : StrandId} {l r : List StrandId}

theorem State.rising_realRun (h : s.rising k = true) : (s.ctx k).realRun = true := by
  unfold State.rising at h
  exact (Bool.and_eq_true_iff.mp h).1

theorem State.easy_iff : s.easy k = true ↔ (s.ctx k).realRun = true ∧ s.increasing (s.askOf k) = false := by
  unfold State.easy State.rising
  cases (s.ctx k).realRun <;> simp

theorem State.hardOrder_eq (s : State) : s.hardOrder = s.arbiterOrder.filter s.rising := by
  unfold State.hardOrder State.realOrder State.rising
  rw [List.filter_filter]
  exact List.filter_congr fun k _ => Bool.and_comm _ _

theorem State.rising_of_mem_hardOrder (h : k ∈ s.hardOrder) : s.rising k = true := by
  rw [State.hardOrder_eq] at h
  exact (List.mem_filter.mp h).2

theorem State.realRun_shadow (h : (s.ctx k).realRun = true) : (s.ctx k).shadow = false := ((Context.realRun_iff _).mp h).2

theorem State.realRun_driving (h : (s.ctx k).realRun = true) : (s.ctx k).driving = true := (Context.driving_iff _).mpr (.inl h)

theorem Strand.regranted_real {x : Strand} (h : x.ctx.shadow = false) (g : Grant) : x.regranted g = { x with grant := g } :=
  if_neg (ne_true_of_eq_false h)

theorem Strand.regranted_shadow {x : Strand} (h : x.ctx.shadow = true) (g : Grant) : x.regranted g = { x with shadowGrant := g } :=
  if_pos h

theorem State.phase2_won (s : State) : s.phase2.won = [] := 
  PassPoint.foldl_keeps (f := PassPoint.grantEasy) (part := PassPoint.won) (fun _ _ => rfl) _ _

theorem State.phase3At_all (s : State) : s.phase3At s.hardOrder = s.phase3 := rfl

theorem State.phase3At_snoc (l : List StrandId) (k : StrandId) :
    s.phase3At (l ++ [k]) = (s.phase3At l).visit s.budget (s.askOf k) := by
  unfold State.phase3At
  rw [List.map_append, List.foldl_append]
  rfl

/-- A strand of phase 3 reaches its visit as the pass began with it, and after
its visit the rest of phase 3 spares it. -/
theorem State.phase3_visit (h : s.hardOrder = l ++ k :: r) :
    s.passStart.spares k (s.phase3At l) ∧ ((s.phase3At l).visit s.budget (s.askOf k)).spares k s.phase3 := by
  have hard : k ∈ s.hardOrder := by rw [h]; simp
  have notEasy : k ∉ s.easyOrder := fun hm =>
    ne_true_of_eq_false (State.mem_easyOrder.mp hm).2 (State.mem_hardOrder.mp hard).2
  obtain ⟨before, after⟩ := (PassPoint.visit_local s.budget).foldl_split (s := s) (h ▸ State.hardOrder_nodup) s.phase2
  rw [← h] at after
  exact ⟨(State.phase2_spares notEasy).trans before, after⟩

/-- An increasing request is granted exactly when G − g + d′ at its visit is within the budget (R62). -/
theorem State.wins_iff (h : s.hardOrder = l ++ k :: r) :
    s.wins k = true ↔ (s.phase3At l).state.totalWith (s.askOf k) ≤ s.budget := by
  obtain ⟨before, after⟩ := State.phase3_visit h
  have notYet : k ∉ (s.phase3At l).won := fun hm => List.not_mem_nil (before.won.mp hm)
  unfold State.wins
  rw [List.contains_iff_mem, after.won]
  unfold PassPoint.visit
  split
  · next hroom => exact iff_of_true List.mem_cons_self hroom
  · next hfull => exact iff_of_false notYet hfull

theorem State.visit_wins (h : s.hardOrder = l ++ k :: r) (hw : s.wins k = true) :
    (s.phase3At l).visit s.budget (s.askOf k) =
      { s.phase3At l with
        state := (s.phase3At l).state.setGrant k (s.askOf k).grant, won := k :: (s.phase3At l).won }.note (s.askOf k) .asAsked :=
  if_pos ((State.wins_iff h).mp hw)

theorem State.visit_loses (h : s.hardOrder = l ++ k :: r) (hw : s.wins k = false) :
    (s.phase3At l).visit s.budget (s.askOf k) = s.phase3At l :=
  if_neg fun hroom => ne_true_of_eq_false hw ((State.wins_iff h).mpr hroom)

/-- The increasing requests granted so far, newest first. -/
theorem State.phase3At_won (h : s.hardOrder = l ++ r) : (s.phase3At l).won.reverse = l.filter s.wins := by
  induction l using List.reverseRecOn generalizing r with
  | nil => exact congrArg List.reverse s.phase2_won
  | append_singleton l k ih =>
    have split : s.hardOrder = l ++ k :: r := by rw [h, List.append_assoc]; rfl
    rw [State.phase3At_snoc, List.filter_append, ← ih split]
    cases hw : s.wins k with
    | true => rw [State.visit_wins split hw, List.filter_cons_of_pos hw]; exact List.reverse_cons
    | false => rw [State.visit_loses split hw, List.filter_cons_of_neg (ne_true_of_eq_false hw)]; simp

theorem State.wins_rising (h : s.wins k = true) : s.rising k = true := by
  have won : k ∈ s.phase3.won.reverse := List.mem_reverse.mpr (List.contains_iff_mem.mp h)
  rw [← State.phase3At_all, State.phase3At_won (List.append_nil _).symm] at won
  exact State.rising_of_mem_hardOrder (List.mem_filter.mp won).1

theorem State.phases_won_eq (s : State) : s.phases.won = s.phase3.won := by
  rw [State.phases_eq]
  exact (PassPoint.foldl_keeps (part := PassPoint.won) (PassPoint.visitShadow_won s.budget) _ _).trans
    (PassPoint.foldl_keeps (part := PassPoint.won) (fun p a => (p.fallBack_won_sum a).1) _ _)

/-- The increasing requests granted, in the arbiter order. -/
theorem State.phases_won (s : State) : s.phases.won.reverse = s.arbiterOrder.filter s.wins := by
  rw [State.phases_won_eq, ← State.phase3At_all, State.phase3At_won (List.append_nil _).symm, State.hardOrder_eq, List.filter_filter]
  refine List.filter_congr fun k _ => ?_
  cases hw : s.wins k with
  | true => rw [State.wins_rising hw]; rfl
  | false => rfl

theorem State.phase2_strand (s : State) (k : StrandId) :
    s.phase2.state.strand k = if s.easy k then { s.strand k with grant := (s.askOf k).grant } else s.strand k := by
  split
  · next he =>
    obtain ⟨hr, hi⟩ := State.easy_iff.mp he
    obtain ⟨q, hq, heasy⟩ := PassPoint.grantEasy_local.foldl_visits (s := s) ((s.arbiterOrder_nodup.filter _).filter _)
      (State.mem_easyOrder.mpr ⟨hr, hi⟩) s.passStart
    have hs := State.realRun_shadow hr
    exact ((hq.grantEasy hs).spares heasy).strand.trans (Strand.regranted_real hs _)
  · next he => exact (State.phase2_spares fun hm => he (State.easy_iff.mpr (State.mem_easyOrder.mp hm))).strand

/-- Phase 3 leaves a strand its easy request, or its increasing request once that is granted (R61, R62). -/
theorem State.phase3At_strand (h : s.hardOrder = l ++ r) (k : StrandId) : (s.phase3At l).state.strand k =
    if s.easy k || s.wins k && l.contains k then { s.strand k with grant := (s.askOf k).grant } else s.strand k := by
  by_cases hk : k ∈ l
  · obtain ⟨l₁, l₂, rfl⟩ := List.append_of_mem hk
    have split : s.hardOrder = l₁ ++ k :: (l₂ ++ r) := by rw [h, List.append_assoc]; rfl
    have hrise : s.rising k = true := State.rising_of_mem_hardOrder (by rw [split]; simp)
    have notEasy : s.easy k = false := by unfold State.easy; rw [hrise]; exact Bool.and_false _
    have distinct : (l₁ ++ k :: l₂).Nodup := (List.nodup_append.mp (h ▸ State.hardOrder_nodup)).1
    obtain ⟨-, after⟩ := (PassPoint.visit_local s.budget).foldl_split (s := s) distinct s.phase2
    have before := (State.phase3_visit split).1
    refine after.strand.trans ?_
    change ((s.phase3At l₁).visit s.budget (s.askOf k)).state.strand k = _
    rw [notEasy, List.contains_iff_mem.mpr hk]
    cases hw : s.wins k with
    | true =>
      rw [State.visit_wins split hw]
      change ((s.phase3At l₁).state.setGrant k _).strand k = _
      rw [State.setGrant, State.strand_upd_same, before.strand]
      rfl
    | false =>
      rw [State.visit_loses split hw]
      exact before.strand
  · have unseen : l.contains k = false := by simpa using hk
    have spared : s.phase2.spares k (s.phase3At l) := (PassPoint.visit_local s.budget).foldl_spares hk _
    rw [spared.strand, State.phase2_strand, unseen, Bool.and_false, Bool.or_false]

/-- G at a visit of phase 3 (R59, R62). -/
theorem State.phase3At_total (h : s.hardOrder = l ++ r) : (s.phase3At l).state.grantedTotal = s.totalAfter l := by
  refine congrArg List.sum (List.map_congr_left fun j _ => ?_)
  rw [State.phase3At_strand h]
  split
  · next hg =>
    have real : (s.ctx j).realRun = true := (Bool.or_eq_true_iff.mp hg).elim (fun he => (State.easy_iff.mp he).1)
      fun hw => State.rising_realRun (State.wins_rising (Bool.and_eq_true_iff.mp hw).1)
    exact if_pos (State.realRun_driving real)
  · rfl

/-- The strands of phase 3 seen so far are the winners among all that the arbiter order has passed. -/
theorem State.totalAfter_filter (pre : List StrandId) : s.totalAfter (pre.filter s.rising) = s.totalAfter pre := by
  have seen : ∀ j, (s.wins j && (pre.filter s.rising).contains j) = (s.wins j && pre.contains j) := fun j => by
    cases hw : s.wins j with
    | true => simp [List.contains_eq_mem, State.wins_rising hw]
    | false => rfl
  unfold State.totalAfter
  simp only [seen]

/-- An increasing request is granted as asked exactly when G − g + d′ as it stands at its visit does not exceed B (R62). -/
theorem State.wins_iff_room {pre post : List StrandId} (h : s.arbiterOrder = pre ++ k :: post) (hr : s.rising k = true) :
    s.wins k = true ↔ s.totalAfter pre - (s.strand k).grant.demand + (s.askOf k).grant.demand ≤ s.budget := by
  have split : s.hardOrder = pre.filter s.rising ++ k :: post.filter s.rising := by
    rw [State.hardOrder_eq, h, List.filter_append, List.filter_cons_of_pos hr]
  have asIs : (s.phase3At (pre.filter s.rising)).state.strand k = s.strand k := (State.phase3_visit split).1.strand
  rw [State.wins_iff split, State.totalWith, State.phase3At_total split, State.totalAfter_filter]
  change s.totalAfter pre - ((s.phase3At (pre.filter s.rising)).state.strand k).grant.demand + _ ≤ _ ↔ _
  rw [asIs]

end

end Sys2Proof.Machine

/-! The phases of an admission pass, strand by strand: the fallback, the shadow phase, the answers and the results (R61 to R65). -/

namespace Sys2Proof.Machine

/-! ## The visits of phase 4 and of the shadow phase -/

section
variable {s : State} {k : StrandId} {p : PassPoint}

/-- Phase 4 answers with the fallback, or refuses (R63). -/
theorem PassPoint.spares.fallBack_cases (h : s.passStart.spares k p) (hs : (s.ctx k).shadow = false) :
    (∃ n, (s.strand k).grant.table = some n ∧ (s.askOf k).grant.speed < (s.strand k).grant.speed
        ∧ (p.fallBack (s.askOf k)).settles s k .fallback (s.grantFor (s.askOf k).grant.speed n))
      ∨ ((s.strand k).grant.table = none ∨ (s.strand k).grant.speed ≤ (s.askOf k).grant.speed)
        ∧ (p.fallBack (s.askOf k)).settles s k .refused (s.strand k).held := by
  unfold PassPoint.fallBack
  rw [show (s.askOf k).strand = k from rfl, h.strand]
  dsimp only [State.passStart]
  split
  · next n hn =>
    split
    · next hlt =>
      refine .inl ⟨n, hn, hlt, ?_⟩
      rw [State.grantFor_near h.rest.near]
      exact h.note (State.sameRest_upd _ _ _) (State.setGrant_own (by rw [h.ctx]; exact hs) _) _ _ _
    · next hge => exact .inr ⟨.inr (Nat.not_lt.mp hge), h.refuse⟩
  · next hn => exact .inr ⟨.inl hn, h.refuse⟩

/-- The shadow phase grants a shadow request as asked, falls back, or refuses it, in that order, each within the budget (R64). -/
theorem PassPoint.spares.visitShadow_cases (h : s.passStart.spares k p) (hs : (s.ctx k).shadow = true) (budget : Nat) :
    let room := fun d => p.state.grantedTotal + p.sum + d ≤ budget
    let asked := (s.askOf k).grant
    let g := (s.strand k).shadowGrant
    let q := p.visitShadow budget (s.askOf k)
    room asked.demand ∧ q.settles s k .asAsked asked ∧ q.sum = p.sum + asked.demand
    ∨ (¬ room asked.demand ∧ ∃ n, g.table = some n ∧ asked.speed < g.speed ∧ room (s.grantFor asked.speed n).demand
        ∧ q.settles s k .fallback (s.grantFor asked.speed n) ∧ q.sum = p.sum + (s.grantFor asked.speed n).demand)
    ∨ (¬ room asked.demand ∧ (∀ n, g.table = some n → asked.speed < g.speed → ¬ room (s.grantFor asked.speed n).demand)
        ∧ q.settles s k .refused (s.strand k).held ∧ q.sum = p.sum) := by
  intro room asked g q
  have own : ∀ g, (p.state.setShadowGrant k g).strand k = (p.state.strand k).regranted g :=
    State.setShadowGrant_own (by rw [h.ctx]; exact hs)
  have current : (p.state.strand k).shadowGrant = g := congrArg Strand.shadowGrant h.strand
  have granting : p.state.grantFor = s.grantFor := State.grantFor_near h.rest.near
  by_cases hroom : room asked.demand
  · have hq : q = PassPoint.note { p with
        state := p.state.setShadowGrant k asked, sum := p.sum + asked.demand } (s.askOf k) .asAsked := if_pos hroom
    rw [hq]
    exact .inl ⟨hroom, h.note (State.sameRest_upd _ _ _) (own _) _ _ _, rfl⟩
  · have hq : q = _ := if_neg hroom
    rw [show (s.askOf k).strand = k from rfl, current, granting] at hq
    rcases hn : g.table with _ | n
    · rw [hn] at hq
      rw [hq]
      exact .inr (.inr ⟨hroom, nofun, h.refuse, rfl⟩)
    · rw [hn] at hq
      by_cases hfall : asked.speed < g.speed ∧ room (s.grantFor asked.speed n).demand
      · have hq' := hq.trans (if_pos hfall)
        rw [hq']
        exact .inr (.inl ⟨hroom, n, rfl, hfall.1, hfall.2, h.note (State.sameRest_upd _ _ _) (own _) _ _ _, rfl⟩)
      · have hq' := hq.trans (if_neg hfall)
        rw [hq']
        refine .inr (.inr ⟨hroom, fun m hm hlt hm' => ?_, h.refuse, rfl⟩)
        cases hm
        exact hfall ⟨hlt, hm'⟩

end

/-! ## The answer to each strand -/

section
variable (s : State)

/-- How the pass answers strand k (R65). -/
def State.verdict (k : StrandId) : Verdict := ((s.phases.answersAt k).head?.map Prod.snd).getD .refused

/-- What the request of shadow strand k adds to the shadow sum (R64). -/
def State.took (k : StrandId) : Nat := if s.verdict k = .refused then 0 else (s.phases.state.strand k).shadowGrant.demand

/-- Where the shadow phase stands after the requests of the strands in l. -/
def State.shadowAt (l : List StrandId) : PassPoint := (l.map s.askOf).foldl (PassPoint.visitShadow s.budget) s.phase4

/-- The shadow sum over the strands seen (R64). -/
def State.shadowSum (seen : List StrandId) : Nat := (seen.map fun j => if (s.ctx j).shadowRun then s.took j else 0).sum

end

section
variable {s : State} {k : StrandId} {l r : List StrandId} {v : Verdict} {g : Grant}

theorem PassPoint.settles.verdict (h : s.phases.settles s k v g) : s.verdict k = v := by
  unfold State.verdict
  rw [h.answers]
  rfl

/-- A real run is left its grant of the pass. -/
theorem PassPoint.settles.real (h : s.phases.settles s k v g) (hs : (s.ctx k).shadow = false) :
    s.phases.state.strand k = { s.strand k with grant := g } ∧ s.verdict k = v :=
  ⟨h.strand.trans (Strand.regranted_real hs g), h.verdict⟩

/-- A shadow run is left its shadow grant of the pass. -/
theorem PassPoint.settles.shadow (h : s.phases.settles s k v g) (hs : (s.ctx k).shadow = true) :
    s.phases.state.strand k = { s.strand k with shadowGrant := g } ∧ s.verdict k = v :=
  ⟨h.strand.trans (Strand.regranted_shadow hs g), h.verdict⟩

/-- A refused strand is left as it was (R65). -/
theorem PassPoint.settles.kept (h : s.phases.settles s k .refused (s.strand k).held) :
    s.phases.state.strand k = s.strand k ∧ s.verdict k = .refused :=
  ⟨h.strand.trans (Strand.regranted_held _), h.verdict⟩

/-- An increasing request that phase 3 grants is granted as asked (R62). -/
theorem State.phases_wins (h : s.wins k = true) : s.phases.settles s k .asAsked (s.askOf k).grant := by
  have hr := State.wins_rising h
  have hs := State.realRun_shadow (State.rising_realRun hr)
  obtain ⟨l, r, split⟩ := List.append_of_mem (State.mem_hardOrder.mpr (Bool.and_eq_true_iff.mp hr))
  obtain ⟨before, after⟩ := State.phase3_visit split
  have granted : ((s.phase3At l).visit s.budget (s.askOf k)).settles s k .asAsked (s.askOf k).grant := by
    rw [State.visit_wins split h]
    exact before.note (State.sameRest_upd _ _ _) (State.setGrant_own (by rw [before.ctx]; exact hs) _) _ _ _
  have notLost : k ∉ s.lostOrder := fun hm => (State.mem_lostOrder.mp hm).2 (List.contains_iff_mem.mp h)
  exact ((granted.spares after).spares (State.phase4_spares notLost)).spares (State.shadowPhase_spares hs)

/-- An increasing request that phase 3 does not grant comes to phase 4 as the pass began with it (R63). -/
theorem State.phase4_visit (h : s.rising k = true) (hw : s.wins k = false) :
    s.passStart.spares k s.phase3 ∧ ∃ q, s.phase3.spares k q ∧ (q.fallBack (s.askOf k)).spares k s.phase4 := by
  have hard : k ∈ s.hardOrder := State.mem_hardOrder.mpr (Bool.and_eq_true_iff.mp h)
  obtain ⟨l, r, split⟩ := List.append_of_mem hard
  obtain ⟨before, after⟩ := State.phase3_visit split
  rw [State.visit_loses split hw] at after
  have lost : k ∈ s.lostOrder :=
    State.mem_lostOrder.mpr ⟨hard, fun hm => ne_true_of_eq_false hw (List.contains_iff_mem.mpr hm)⟩
  obtain ⟨q, hq, hfall⟩ := PassPoint.fallBack_local.foldl_visits (s := s) (State.hardOrder_nodup.filter _) lost s.phase3
  exact ⟨before.trans after, q, hq, hfall⟩

/-- The fallback of a refused increasing request, or its refusal (R63). -/
theorem State.phases_loses (h : s.rising k = true) (hw : s.wins k = false) :
    (∃ n, (s.strand k).grant.table = some n ∧ (s.askOf k).grant.speed < (s.strand k).grant.speed
        ∧ s.phases.settles s k .fallback (s.grantFor (s.askOf k).grant.speed n))
      ∨ ((s.strand k).grant.table = none ∨ (s.strand k).grant.speed ≤ (s.askOf k).grant.speed)
        ∧ s.phases.settles s k .refused (s.strand k).held := by
  have hs := State.realRun_shadow (State.rising_realRun h)
  obtain ⟨spared, q, hq, hfall⟩ := State.phase4_visit h hw
  have later := hfall.trans (State.shadowPhase_spares hs)
  rcases (spared.trans hq).fallBack_cases hs with ⟨n, hn, hlt, hset⟩ | ⟨hno, hset⟩
  · exact .inl ⟨n, hn, hlt, hset.spares later⟩
  · exact .inr ⟨hno, hset.spares later⟩

/-- Phases 2 to 4 reach real runs alone (R61 to R63). -/
theorem State.phase4_spares_unreal (h : ¬ (s.ctx k).realRun = true) : s.passStart.spares k s.phase4 := by
  have notHard : k ∉ s.hardOrder := fun hm => h (State.mem_hardOrder.mp hm).1
  exact ((State.phase2_spares fun hm => h (State.mem_easyOrder.mp hm).1).trans (State.phase3_spares notHard)).trans
    (State.phase4_spares fun hm => notHard (State.mem_lostOrder.mp hm).1)

/-- No phase reaches a strand that does not run. -/
theorem State.phases_idle (h : (s.ctx k).running = false) : s.passStart.spares k s.phases := by
  have notReal : ¬ (s.ctx k).realRun = true := fun hr => ne_true_of_eq_false h ((Context.realRun_iff _).mp hr).1
  have notShadow : k ∉ s.shadowOrder := fun hm =>
    ne_true_of_eq_false h ((Context.shadowRun_iff _).mp (State.mem_shadowOrder.mp hm)).1
  rw [State.phases_eq]
  exact (State.phase4_spares_unreal notReal).trans ((PassPoint.visitShadow_local _).foldl_spares notShadow _)

/-! ## The shadow phase -/

theorem State.phase4_sum (s : State) : s.phase4.sum = 0 :=
  (PassPoint.foldl_keeps (part := PassPoint.sum) (fun p a => (p.fallBack_won_sum a).2) _ _).trans
    ((PassPoint.foldl_keeps (part := PassPoint.sum) (PassPoint.visit_sum s.budget) _ _).trans
      (PassPoint.foldl_keeps (f := PassPoint.grantEasy) (part := PassPoint.sum) (fun _ _ => rfl) _ _))

theorem State.shadowAt_all (s : State) : s.shadowAt s.shadowOrder = s.phases := s.phases_eq.symm

theorem State.shadowAt_snoc (l : List StrandId) (k : StrandId) :
    s.shadowAt (l ++ [k]) = (s.shadowAt l).visitShadow s.budget (s.askOf k) := by
  unfold State.shadowAt
  rw [List.map_append, List.foldl_append]
  rfl

/-- The shadow phase leaves G as it found it (R64). -/
theorem State.shadowAt_grantedTotal (l : List StrandId) : (s.shadowAt l).state.grantedTotal = s.phases.state.grantedTotal := by
  have kept : ∀ l, (s.shadowAt l).state.grantedTotal = s.phase4.state.grantedTotal := fun _ =>
    PassPoint.foldl_keeps (part := fun p => p.state.grantedTotal) (PassPoint.visitShadow_grantedTotal s.budget) _ _
  rw [kept, ← State.shadowAt_all, kept]

/-- A shadow strand reaches its visit as the pass began with it, and after its visit no request of the pass reaches it. -/
theorem State.shadow_visit (h : s.shadowOrder = l ++ k :: r) :
    s.passStart.spares k (s.shadowAt l) ∧ ((s.shadowAt l).visitShadow s.budget (s.askOf k)).spares k s.phases := by
  have shadow : k ∈ s.shadowOrder := by rw [h]; simp
  have hs := ((Context.shadowRun_iff _).mp (State.mem_shadowOrder.mp shadow)).2
  have notReal : ¬ (s.ctx k).realRun = true := fun hr => ne_true_of_eq_false (State.realRun_shadow hr) hs
  have distinct : s.shadowOrder.Nodup := s.arbiterOrder_nodup.filter _
  obtain ⟨before, after⟩ := (PassPoint.visitShadow_local s.budget).foldl_split (s := s) (h ▸ distinct) s.phase4
  rw [← h, ← State.phases_eq] at after
  exact ⟨(State.phase4_spares_unreal notReal).trans before, after⟩

theorem State.took_granted (h : s.phases.settles s k v g) (hs : (s.ctx k).shadow = true) (hv : v ≠ .refused) : s.took k = g.demand := by
  obtain ⟨hstrand, hverdict⟩ := h.shadow hs
  unfold State.took
  rw [hverdict, if_neg hv, hstrand]

theorem State.took_refused (h : s.verdict k = .refused) : s.took k = 0 := if_pos h

/-- The answer of the shadow phase to strand k, with the sum at its visit and what its answer adds (R64). -/
theorem State.shadow_answer (h : s.shadowOrder = l ++ k :: r) :
    let room := fun d => s.phases.state.grantedTotal + (s.shadowAt l).sum + d ≤ s.budget
    let asked := (s.askOf k).grant
    let g := (s.strand k).shadowGrant
    (s.shadowAt (l ++ [k])).sum = (s.shadowAt l).sum + s.took k
    ∧ (room asked.demand ∧ s.phases.settles s k .asAsked asked ∧ s.took k = asked.demand
      ∨ (¬ room asked.demand ∧ ∃ n, g.table = some n ∧ asked.speed < g.speed ∧ room (s.grantFor asked.speed n).demand
          ∧ s.phases.settles s k .fallback (s.grantFor asked.speed n) ∧ s.took k = (s.grantFor asked.speed n).demand)
      ∨ (¬ room asked.demand ∧ (∀ n, g.table = some n → asked.speed < g.speed → ¬ room (s.grantFor asked.speed n).demand)
          ∧ s.phases.settles s k .refused (s.strand k).held ∧ s.took k = 0)) := by
  intro room asked g
  have hs : (s.ctx k).shadow = true :=
    ((Context.shadowRun_iff _).mp (State.mem_shadowOrder.mp (h ▸ by simp : k ∈ s.shadowOrder))).2
  obtain ⟨before, after⟩ := State.shadow_visit h
  have cases := before.visitShadow_cases hs s.budget
  rw [State.shadowAt_grantedTotal] at cases
  rw [State.shadowAt_snoc]
  rcases cases with ⟨hroom, hset, hsum⟩ | ⟨hfull, n, hn, hlt, hroom, hset, hsum⟩ | ⟨hfull, hno, hset, hsum⟩
  · have took := State.took_granted (hset.spares after) hs nofun
    exact ⟨hsum.trans (by rw [took]), .inl ⟨hroom, hset.spares after, took⟩⟩
  · have took := State.took_granted (hset.spares after) hs nofun
    exact ⟨hsum.trans (by rw [took]), .inr (.inl ⟨hfull, n, hn, hlt, hroom, hset.spares after, took⟩)⟩
  · have took := State.took_refused (hset.spares after).verdict
    exact ⟨hsum.trans (by rw [took]; rfl), .inr (.inr ⟨hfull, hno, hset.spares after, took⟩)⟩

theorem State.shadowAt_sum (h : s.shadowOrder = l ++ r) : (s.shadowAt l).sum = (l.map s.took).sum := by
  induction l using List.reverseRecOn generalizing r with
  | nil => exact s.phase4_sum
  | append_singleton l k ih =>
    have split : s.shadowOrder = l ++ k :: r := by rw [h, List.append_assoc]; rfl
    rw [(State.shadow_answer split).1, ih split, List.map_append, List.sum_append]
    simp

/-- The shadow sum at a visit is the sum over the strands that the arbiter order has passed (R64). -/
theorem State.shadowSum_eq (s : State) (pre : List StrandId) :
    s.shadowSum pre = ((pre.filter fun k => (s.ctx k).shadowRun).map s.took).sum := by
  unfold State.shadowSum
  induction pre with
  | nil => rfl
  | cons k pre ih => cases hk : (s.ctx k).shadowRun <;> simp [hk, ih]

theorem State.shadowOrder_split {pre post : List StrandId} (h : s.arbiterOrder = pre ++ k :: post) (hk : (s.ctx k).shadowRun = true) :
    s.shadowOrder = (pre.filter fun j => (s.ctx j).shadowRun) ++ k :: post.filter fun j => (s.ctx j).shadowRun := by
  unfold State.shadowOrder
  rw [h, List.filter_append, List.filter_cons_of_pos (p := fun j => (s.ctx j).shadowRun) hk]

/-- The shadow admissions do not bring G + S above the budget (R64). -/
theorem State.shadowSum_bound (s : State) :
    s.shadowSum strandIds = 0 ∨ s.phases.state.grantedTotal + s.shadowSum strandIds ≤ s.budget := by
  have all : s.shadowSum strandIds = s.phases.sum := by
    rw [← State.shadowAt_all, State.shadowAt_sum (List.append_nil _).symm]
    exact (s.arbiterOrder_perm.map _).sum_eq.symm.trans (s.shadowSum_eq s.arbiterOrder)
  have bound : ∀ (asks : List Ask) (p : PassPoint), p.sum = 0 ∨ p.state.grantedTotal + p.sum ≤ s.budget →
      (asks.foldl (PassPoint.visitShadow s.budget) p).sum = 0
        ∨ (asks.foldl (PassPoint.visitShadow s.budget) p).state.grantedTotal
          + (asks.foldl (PassPoint.visitShadow s.budget) p).sum ≤ s.budget := by
    intro asks
    induction asks with
    | nil => exact fun _ hp => hp
    | cons a asks ih => exact fun _ hp => ih _ (PassPoint.visitShadow_bound hp a)
  rw [all, State.phases_eq]
  exact bound _ _ (.inl s.phase4_sum)

/-! ## The results -/

/-- The context that an answer leaves: A, the starved flag and the starved count (R65, R70). -/
theorem Context.takeResult_eq (a : Nat) (v : Verdict) (c : Context) : c.takeResult a v = { c with
    acc := if v = .refused then c.acc else a
    starved := decide (v ≠ .asAsked)
    starvedCount := if v = .asAsked then 0 else min (c.starvedCount + 1) 65535 } := by
  cases v <;> rfl

/-- The result of the pass at a running strand (R65). -/
theorem State.results_running (h : (s.ctx k).running = true) : (s.phases.state.takeResults s.phases.answers).strand k =
    { s.phases.state.strand k with ctx := (s.ctx k).takeResult (s.candidate k) (s.verdict k) } := by
  obtain ⟨v, g, hset, -⟩ := State.phases_settle h
  rw [hset.result, hset.strand, hset.verdict]

theorem State.phases_ctx (s : State) (k : StrandId) : s.phases.state.ctx k = s.ctx k := s.phases_from.state.ctx k

theorem State.results_idle (h : (s.ctx k).running = false) :
    (s.phases.state.takeResults s.phases.answers).strand k = s.phases.state.strand k := by
  have unanswered : s.phases.answers.filter (fun av => av.1.strand = k) = [] := (State.phases_idle h).answers
  rw [State.takeResults_strand, unanswered]
  rfl

end

/-! ## The granted total after the phases -/

section
variable {s : State}

theorem State.phase2_grantedTotal (s : State) : s.phase2.state.grantedTotal ≤ s.grantedTotal := State.grantedTotal_mono fun k => by
  rw [State.phase2_strand]
  split
  · next he =>
    obtain ⟨hr, hi⟩ := State.easy_iff.mp he
    have fewer : (s.askOf k).grant.demand ≤ (s.strand k).grant.demand := Nat.not_lt.mp (of_decide_eq_false hi)
    have driving := State.realRun_driving hr
    exact (if_pos driving).trans_le (fewer.trans_eq (if_pos driving).symm)
  · exact Nat.le_refl _

theorem State.phase3_grantedTotal (s : State) : s.phase3.state.grantedTotal ≤ max s.budget s.grantedTotal := by
  have bound : ∀ (asks : List Ask) (p : PassPoint),
      (asks.foldl (PassPoint.visit s.budget) p).state.grantedTotal ≤ max s.budget p.state.grantedTotal := by
    intro asks
    induction asks with
    | nil => exact fun _ => Nat.le_max_right _ _
    | cons a asks ih =>
      exact fun p => (ih _).trans (Nat.max_le.mpr ⟨Nat.le_max_left _ _, PassPoint.visit_bound _ _ _⟩)
  exact (bound _ s.phase2).trans (Nat.max_le.mpr ⟨Nat.le_max_left _ _, s.phase2_grantedTotal.trans (Nat.le_max_right _ _)⟩)

/-- A fallback below the granted speed under the granted table asks for no more than is granted (R53, R63). -/
theorem State.fallback_demand {k : StrandId} (h : s.flowsSound) (hr : (s.ctx k).realRun = true) {n : TableId} {v : Nat}
    (hn : (s.strand k).grant.table = some n) (hv : v < (s.strand k).grant.speed) :
    (s.grantFor v n).demand ≤ (s.strand k).grant.demand := by
  obtain ⟨m, hm⟩ := (h k).1 hr
  rw [hm] at hn
  cases hn
  rw [hm]
  exact s.demand_mono n (Nat.le_of_lt hv)

theorem State.phase4_grantedTotal (h : s.flowsSound) : s.phase4.state.grantedTotal ≤ s.phase3.state.grantedTotal :=
  State.grantedTotal_mono fun k => by
    by_cases hk : k ∈ s.lostOrder
    · obtain ⟨hard, hlost⟩ := State.mem_lostOrder.mp hk
      have hrise := State.rising_of_mem_hardOrder hard
      have hr := State.rising_realRun hrise
      have hs := State.realRun_shadow hr
      have hw : s.wins k = false := Bool.eq_false_iff.mpr fun hw => hlost (List.contains_iff_mem.mp hw)
      obtain ⟨spared, q, hq, hfall⟩ := State.phase4_visit hrise hw
      rw [spared.strand]
      change _ ≤ (s.strand k).granted
      rcases (spared.trans hq).fallBack_cases hs with ⟨n, hn, hlt, hset⟩ | ⟨-, hset⟩
      · have driving := State.realRun_driving hr
        rw [(hset.spares hfall).strand, Strand.regranted_real hs]
        exact (if_pos driving).trans_le ((State.fallback_demand h hr hn hlt).trans_eq (if_pos driving).symm)
      · rw [(hset.spares hfall).strand, Strand.regranted_held]
    · rw [(State.phase4_spares hk).strand]

/-- The phases bring G to no more than the greater of the budget and what it was (R61 to R64). -/
theorem State.phases_grantedTotal (h : s.flowsSound) : s.phases.state.grantedTotal ≤ max s.budget s.grantedTotal :=
  (s.shadowAt_grantedTotal (l := [])).symm.trans_le ((State.phase4_grantedTotal h).trans s.phase3_grantedTotal)

end

end Sys2Proof.Machine

/-! The close of an admission pass, and the budget of a pass as a whole (R54 to R56, R61 to R67, R70, R71). -/

namespace Sys2Proof.Machine

/-! ## The close -/

/-- The pointer after a pass that granted these increasing requests, newest first (R67). -/
def State.nextPointer (s : State) (won : List StrandId) : Fin 8 :=
  match s.working.config.mode, won with
  | .rotating, k :: _ => k + 1
  | _, _ => s.pointer

/-- A state with the pointer and the deficit count that a pass closes with. -/
def State.closedAt (s : State) (p : Fin 8) (d : Nat) : State := { s with pointer := p, deficit := d }

theorem State.closedAt_pointer (s : State) (p : Fin 8) (d : Nat) : (s.closedAt p d).pointer = p := rfl

theorem State.closedAt_deficit (s : State) (p : Fin 8) (d : Nat) : (s.closedAt p d).deficit = d := rfl

/-- The DEFICIT alarm that is due when the deficit count increases to its limit (R71). -/
def State.lateDeficit (s : State) : State :=
  if s.budget < s.grantedTotal ∧ s.deficit + 1 = s.plant.deficitLimit then
    s.raise .deficit none (min (s.grantedTotal - s.budget) 65535)
  else s

section
variable (s : State) (p : Fin 8) (d : Nat)

/-- An alarm neither reads nor moves the pointer and the deficit count. -/
theorem State.raise_closedAt (a : AlarmKind) (o : Option StrandId) (n : Nat) :
    (s.closedAt p d).raise a o n = (s.raise a o n).closedAt p d := by
  unfold State.raise State.closedAt
  dsimp only
  split <;> rfl

theorem State.raiseStarved_closedAt (l : List (StrandId × Bool)) :
    (s.closedAt p d).raiseStarved l = (s.raiseStarved l).closedAt p d := by
  unfold State.raiseStarved
  induction l generalizing s with
  | nil => rfl
  | cons a l ih => rw [List.foldl_cons, State.raise_closedAt, ih]; rfl

theorem State.movePointer_closedAt (won : List StrandId) : s.movePointer won = s.closedAt (s.nextPointer won) s.deficit := by
  unfold State.movePointer State.nextPointer
  cases s.working.config.mode with
  | fixed => rfl
  | rotating => cases won <;> rfl

/-- The deficit count at the close, with its alarm (R71). -/
theorem State.countDeficit_closedAt : (s.closedAt p s.deficit).countDeficit =
    s.lateDeficit.closedAt p (if s.budget < s.grantedTotal then min (s.deficit + 1) 65535 else 0) := by
  unfold State.lateDeficit
  by_cases hover : s.budget < s.grantedTotal
  · have counted : (s.closedAt p s.deficit).countDeficit = if s.deficit + 1 = s.plant.deficitLimit then
        (s.closedAt p (satInc s.deficit)).raise .deficit none (sat16 (s.grantedTotal - s.budget))
        else s.closedAt p (satInc s.deficit) := if_pos hover
    rw [counted, if_pos hover]
    by_cases hlimit : s.deficit + 1 = s.plant.deficitLimit
    · rw [if_pos hlimit, if_pos ⟨hover, hlimit⟩]
      exact State.raise_closedAt s p _ _ _ _
    · rw [if_neg hlimit, if_neg fun h => hlimit h.2]
      rfl
  · rw [if_neg hover, if_neg fun h => hover h.1]
    exact if_neg hover

end

/-- The close of a pass: the STARVED alarms, the DEFICIT alarm, the pointer and the deficit count (R67, R70, R71). -/
theorem State.close_eq (won : List StrandId) (l : List (StrandId × Bool)) (s : State) :
    ((s.movePointer won).raiseStarved l).countDeficit = (s.raiseStarved l).lateDeficit.closedAt (s.nextPointer won)
      (if s.budget < s.grantedTotal then min (s.deficit + 1) 65535 else 0) := by
  obtain ⟨hnear, hstrand⟩ := State.raiseStarved_near l s
  unfold State.near at hnear
  have hbudget : (s.raiseStarved l).budget = s.budget := by rw [hnear]
  have hdeficit : (s.raiseStarved l).deficit = s.deficit := by rw [hnear]
  have htotal : (s.raiseStarved l).grantedTotal = s.grantedTotal := State.grantedTotal_congr fun k => by rw [hstrand]
  rw [State.movePointer_closedAt, State.raiseStarved_closedAt, ← hdeficit, State.countDeficit_closedAt, hbudget, htotal]

/-! ## The starving strands -/

section
variable {s : State} {k : StrandId} (i : Nat)

/-- The strands that the answers of a pass leave starved (R65, R70). -/
theorem State.answers_starve : (s.phases.answers.any fun av => av.1.strand = k ∧ av.2 ≠ .asAsked) = true
    ↔ (s.ctx k).running = true ∧ ((s.phases.state.takeResults s.phases.answers).ctx k).starved = true := by
  have own : (s.phases.answers.any fun av => av.1.strand = k ∧ av.2 ≠ .asAsked)
      = (s.phases.answersAt k).any fun av => av.2 ≠ .asAsked := by
    unfold PassPoint.answersAt
    rw [List.any_filter]
    simp
  rw [own]
  cases hr : (s.ctx k).running with
  | false =>
    have unanswered : s.phases.answersAt k = [] := (State.phases_idle hr).answers
    simp [unanswered]
  | true =>
    obtain ⟨v, g, hset, -⟩ := State.phases_settle hr
    rw [hset.answers, State.ctx, State.results_running hr, Context.takeResult_eq, hset.verdict]
    simp

/-- The results leave the runs as they are (R65). -/
theorem State.results_run (s : State) (k : StrandId) :
    ((s.phases.state.takeResults s.phases.answers).ctx k).running = (s.ctx k).running := by
  cases hr : (s.ctx k).running with
  | false => rw [State.ctx, State.results_idle hr, ← State.ctx, State.phases_ctx, hr]
  | true => rw [State.ctx, State.results_running hr]; exact (Context.takeResult_fields _ _ _).1.trans hr

theorem State.passDwelt_running (s : State) (k : StrandId) : ((s.passDwelt i).ctx k).running = (s.ctx k).running :=
  (State.results_run (s.passDwelt i) k).symm.trans (State.passResults_sameRun i s k).running

theorem State.passDwelt_ctx (h : (s.ctx k).running = true) : (s.passDwelt i).ctx k = (s.ctx k).countDwell := by
  have notBlending : (s.ctx k).state ≠ .handback := by
    rcases (Context.running_iff _).mp h with h | h <;> rw [h] <;> nofun
  exact congrArg Strand.ctx (State.passDwelt_strand i notBlending)

/-- The strands due a STARVED alarm at the close of a pass (R70). -/
theorem State.passStarving_eq (s : State) : s.passStarving i =
    (strandIds.filter fun k => (s.ctx k).running ∧ ((s.passResults i).ctx k).starved
      ∧ (s.ctx k).starvedCount + 1 = s.plant.starvationLimit).map fun k => (k, (s.ctx k).shadow) := by
  have hplant : (s.passDwelt i).phases.state.plant = s.plant := by
    have hnear := State.near_trans (State.passDwelt_near i s) (State.phases_sameRest _).near
    unfold State.near at hnear
    rw [hnear]
    rfl
  have fields : ∀ k, (s.ctx k).running = true →
      ((s.passDwelt i).phases.state.ctx k).starvedCount = (s.ctx k).starvedCount
        ∧ ((s.passDwelt i).phases.state.ctx k).shadow = (s.ctx k).shadow := fun k hr => by
    rw [State.phases_ctx, State.passDwelt_ctx i hr, Context.countDwell_eq]
    exact ⟨rfl, rfl⟩
  have same : ∀ k, (((s.passDwelt i).phases.answers.any fun av => av.1.strand = k ∧ av.2 ≠ .asAsked) = true
        ∧ ((s.passDwelt i).phases.state.ctx k).starvedCount + 1 = (s.passDwelt i).phases.state.plant.starvationLimit)
      ↔ (s.ctx k).running = true ∧ ((s.passResults i).ctx k).starved = true
        ∧ (s.ctx k).starvedCount + 1 = s.plant.starvationLimit := fun k => by
    rw [State.answers_starve, State.passDwelt_running, hplant, and_assoc]
    exact and_congr_right fun hr => by rw [(fields k hr).1]; exact Iff.rfl
  unfold State.passStarving State.newlyStarved
  simp only [same]
  refine List.map_congr_left fun k hk => ?_
  rw [(fields k (of_decide_eq_true (List.mem_filter.mp hk).2).1).2]

/-! ## What a completion leaves of the admission -/

/-- From x to y a strand keeps what a pass admitted: a real run's grant, and of a run that goes on its shadow grant, A and the
starved flag and count. -/
structure Strand.keepsAdmission (x y : Strand) : Prop where
  grant : x.ctx.shadow = false → y.grant = x.grant
  shadowGrant : y.ctx.shadowRun = true → y.shadowGrant = x.shadowGrant
  result : y.ctx.running = true →
    y.ctx.acc = x.ctx.acc ∧ y.ctx.starved = x.ctx.starved ∧ y.ctx.starvedCount = x.ctx.starvedCount

/-- A completion keeps what the pass admitted (R42 to R45, R58). -/
theorem State.completionTest_admission (t : State) (k : StrandId) :
    (t.strand k).keepsAdmission ((t.completionTest k).strand k) := by
  rcases State.completionTest_cases k t with
    ⟨h, -⟩ | ⟨p, n, hp, -, -, he, -, ⟨n', -, h⟩ | ⟨-, -, h⟩ | ⟨-, -, -, h⟩ | ⟨-, -, hs, h⟩⟩
  · rw [h]; exact ⟨fun _ => rfl, fun _ => rfl, fun _ => ⟨rfl, rfl, rfl⟩⟩
  · rw [h, State.enterSegment_eq n' hp he, State.updCtx, State.strand_upd_same]
    exact ⟨fun _ => rfl, fun _ => rfl, fun _ => ⟨rfl, rfl, rfl⟩⟩
  · rw [h, State.strand_raise, State.updCtx, State.strand_upd_same]
    exact ⟨fun _ => rfl, fun _ => rfl, fun _ => ⟨rfl, rfl, rfl⟩⟩
  · rw [h, State.strand_upd_same]
    exact ⟨fun _ => rfl, fun _ => rfl, nofun⟩
  · rw [h, State.strand_raise, State.strand_upd_same]
    exact ⟨fun hs' => absurd hs (ne_true_of_eq_false hs'), nofun, nofun⟩

theorem Strand.keepsAdmission.ctx {t u : State} (h : (t.strand k).keepsAdmission (u.strand k)) :
    ((t.ctx k).shadow = false → (u.strand k).grant = (t.strand k).grant)
      ∧ ((u.ctx k).shadowRun = true → (u.strand k).shadowGrant = (t.strand k).shadowGrant)
      ∧ ((u.ctx k).running = true → (u.ctx k).acc = (t.ctx k).acc ∧ (u.ctx k).starved = (t.ctx k).starved
        ∧ (u.ctx k).starvedCount = (t.ctx k).starvedCount) :=
  ⟨h.grant, h.shadowGrant, h.result⟩

/-- What a pass leaves of its admission from the results on (R57, R65). -/
theorem State.admissionPass_admission (s : State) (k : StrandId) :
    ((s.ctx k).realRun = true → ((s.admissionPass i).strand k).grant = ((s.passResults i).strand k).grant)
      ∧ (((s.admissionPass i).ctx k).shadowRun = true →
        ((s.admissionPass i).strand k).shadowGrant = ((s.passResults i).strand k).shadowGrant)
      ∧ (((s.admissionPass i).ctx k).running = true →
        ((s.admissionPass i).ctx k).acc = ((s.passResults i).ctx k).acc
          ∧ ((s.admissionPass i).ctx k).starved = ((s.passResults i).ctx k).starved
          ∧ ((s.admissionPass i).ctx k).starvedCount = ((s.passResults i).ctx k).starvedCount) := by
  obtain ⟨u, -, hu, ht⟩ := State.admissionPass_completion (k := k) i s
  have kept := State.completionTest_admission u k
  rw [hu, ← ht] at kept
  obtain ⟨hgrant, hrest⟩ := kept.ctx
  refine ⟨fun hr => hgrant ?_, hrest⟩
  obtain ⟨hrun, hs⟩ := (Context.realRun_iff _).mp hr
  exact ((State.passResults_sameRun i s k).shadow hrun).trans hs

/-! ## The pass -/

theorem State.passCompleted_near (s : State) : State.near { s with budget := s.formBudget } (s.passCompleted i) :=
  State.near_trans (State.passResults_near i s) (State.completionTest_alone.near _ _)

theorem State.admissionPass_grantedTotal (s : State) : (s.admissionPass i).grantedTotal = (s.passCompleted i).grantedTotal :=
  State.grantedTotal_congr fun k => by rw [State.admissionPass_strand]

/-- A pass from its completion tests on: its STARVED alarms, its DEFICIT alarm, its pointer and its deficit count. -/
theorem State.admissionPass_close (s : State) : s.admissionPass i =
    ((s.passCompleted i).raiseStarved (s.passStarving i)).lateDeficit.closedAt (s.nextPointer (s.passDwelt i).phases.won)
      (if s.formBudget < (s.admissionPass i).grantedTotal then min (s.deficit + 1) 65535 else 0) := by
  have hnear := State.passCompleted_near i s
  unfold State.near at hnear
  have hbudget : (s.passCompleted i).budget = s.formBudget := by rw [hnear]
  have hdeficit : (s.passCompleted i).deficit = s.deficit := by rw [hnear]
  have hpointer : (s.passCompleted i).nextPointer = s.nextPointer := by rw [hnear]; rfl
  rw [State.admissionPass_grantedTotal, ← hpointer, ← hbudget, ← hdeficit]
  exact State.close_eq _ _ _

end

end Sys2Proof.Machine

/-! What the statement PassKeepsToTheBudget asks of each strand, and the statement itself (R54 to R56, R61 to R67, R70, R71). -/

namespace Sys2Proof.Machine

section
variable {s : State} {k : StrandId}

/-- A request that is not increasing, and an increasing one that phase 3 grants, are granted as asked (R61, R62). -/
theorem State.phases_grants (h : s.easy k = true ∨ s.wins k = true) :
    s.phases.state.strand k = { s.strand k with grant := (s.askOf k).grant } ∧ s.verdict k = .asAsked := by
  rcases h with he | hw
  · obtain ⟨hr, hi⟩ := State.easy_iff.mp he
    exact (State.phases_easy hr hi).real (State.realRun_shadow hr)
  · exact (State.phases_wins hw).real (State.realRun_shadow (State.rising_realRun (State.wins_rising hw)))

/-- The fallback of an increasing request that phase 3 does not grant, where there is one, and its refusal where there is none
(R63). -/
theorem State.phases_fallsBack (h : s.rising k = true) (hw : s.wins k = false) :
    (∀ n, (s.strand k).grant.table = some n → (s.askOf k).grant.speed < (s.strand k).grant.speed →
        s.phases.state.strand k = { s.strand k with grant := s.grantFor (s.askOf k).grant.speed n } ∧ s.verdict k = .fallback)
    ∧ ((s.strand k).grant.table = none ∨ (s.strand k).grant.speed ≤ (s.askOf k).grant.speed →
        s.phases.state.strand k = s.strand k ∧ s.verdict k = .refused) := by
  rcases State.phases_loses h hw with ⟨n, hn, hlt, hset⟩ | ⟨hno, hset⟩
  · refine ⟨fun m hm _ => ?_, fun hno => ?_⟩
    · rw [hn] at hm
      cases hm
      exact hset.real (State.realRun_shadow (State.rising_realRun h))
    · rw [hn] at hno
      exact absurd hlt (Nat.not_lt.mpr (hno.resolve_left nofun))
  · refine ⟨fun m hm hlt => ?_, fun _ => hset.kept⟩
    rw [hm] at hno
    exact absurd hlt (Nat.not_lt.mpr (hno.resolve_left nofun))

/-- The three answers to a shadow request, each with its condition at the visit (R64). -/
theorem State.phases_shadowAnswer {pre post : List StrandId} (h : s.arbiterOrder = pre ++ k :: post) (hk : (s.ctx k).shadowRun = true) :
    let room := fun d => s.phases.state.grantedTotal + s.shadowSum pre + d ≤ s.budget
    let asked := (s.askOf k).grant
    let g := (s.strand k).shadowGrant
    (room asked.demand →
      s.phases.state.strand k = { s.strand k with shadowGrant := asked } ∧ s.verdict k = .asAsked ∧ s.took k = asked.demand)
    ∧ (∀ n, ¬ room asked.demand → g.table = some n → asked.speed < g.speed → room (s.grantFor asked.speed n).demand →
        s.phases.state.strand k = { s.strand k with shadowGrant := s.grantFor asked.speed n } ∧ s.verdict k = .fallback
          ∧ s.took k = (s.grantFor asked.speed n).demand)
    ∧ (¬ room asked.demand → (∀ n, g.table = some n → asked.speed < g.speed → ¬ room (s.grantFor asked.speed n).demand) →
        s.phases.state.strand k = s.strand k ∧ s.verdict k = .refused ∧ s.took k = 0) := by
  have split := State.shadowOrder_split h hk
  have hs := ((Context.shadowRun_iff _).mp hk).2
  have answer := (State.shadow_answer split).2
  rw [State.shadowAt_sum split, ← State.shadowSum_eq] at answer
  rcases answer with ⟨hroom, hset, htook⟩ | ⟨hfull, n, hn, hlt, hroom, hset, htook⟩ | ⟨hfull, hno, hset, htook⟩
  · obtain ⟨hstrand, hverdict⟩ := hset.shadow hs
    exact ⟨fun _ => ⟨hstrand, hverdict, htook⟩, fun _ hfull => absurd hroom hfull, fun hfull => absurd hroom hfull⟩
  · obtain ⟨hstrand, hverdict⟩ := hset.shadow hs
    refine ⟨fun hroom => absurd hroom hfull, fun m _ hm _ _ => ?_, fun _ hno => absurd hroom (hno n hn hlt)⟩
    cases hn.symm.trans hm
    exact ⟨hstrand, hverdict, htook⟩
  · obtain ⟨hstrand, hverdict⟩ := hset.kept
    exact ⟨fun hroom => absurd hroom hfull, fun m _ hm hlt hroom => absurd hroom (hno m hm hlt),
      fun _ _ => ⟨hstrand, hverdict, htook⟩⟩

/-- The records of a strand after the results of the phases (R65, R70). -/
theorem State.results_strand (s : State) (k : StrandId) : (s.phases.state.takeResults s.phases.answers).strand k =
    { s.phases.state.strand k with
      ctx := if (s.ctx k).running then (s.ctx k).takeResult (s.candidate k) (s.verdict k) else s.ctx k } := by
  cases hr : (s.ctx k).running with
  | true => exact State.results_running hr
  | false => rw [State.results_idle hr, if_neg (by decide), ← State.phases_ctx]; rfl

/-- The STARVED alarms of a pass, one strand after another (R70). -/
theorem State.raiseStarved_passStarving (i : Nat) (s u : State) : u.raiseStarved (s.passStarving i) =
    (strandIds.filter fun k => (s.ctx k).running ∧ ((s.passResults i).ctx k).starved
      ∧ (s.ctx k).starvedCount + 1 = s.plant.starvationLimit).foldl
        (fun v k => v.raise .starved (some k) (if (s.ctx k).shadow then 1 else 0)) u := by
  rw [State.passStarving_eq, State.raiseStarved, List.foldl_map]

theorem State.admissionPass_pointer (i : Nat) (s : State) :
    (s.admissionPass i).pointer = s.nextPointer (s.passDwelt i).phases.won := by
  rw [State.admissionPass_close]
  exact State.closedAt_pointer _ _ _

theorem State.admissionPass_deficit (i : Nat) (s : State) :
    (s.admissionPass i).deficit = if s.formBudget < (s.admissionPass i).grantedTotal then min (s.deficit + 1) 65535 else 0 := by
  conv_lhs => rw [State.admissionPass_close]
  exact State.closedAt_deficit _ _ _

/-- The state of a pass with its DEFICIT alarm, if one is due, at the G and B of the pass (R71). -/
theorem State.lateDeficit_pass (i : Nat) (s : State) (l : List (StrandId × Bool)) :
    ((s.passCompleted i).raiseStarved l).lateDeficit =
      if s.formBudget < (s.admissionPass i).grantedTotal ∧ s.deficit + 1 = s.plant.deficitLimit then
        ((s.passCompleted i).raiseStarved l).raise .deficit none (min ((s.admissionPass i).grantedTotal - s.formBudget) 65535)
      else (s.passCompleted i).raiseStarved l := by
  have hnear := State.near_trans (State.passCompleted_near i s) (State.raiseStarved_near l _).1
  have htotal : ((s.passCompleted i).raiseStarved l).grantedTotal = (s.admissionPass i).grantedTotal :=
    (State.grantedTotal_congr fun k => by rw [(State.raiseStarved_near l _).2]).trans (State.admissionPass_grantedTotal i s).symm
  unfold State.near at hnear
  have hbudget : ((s.passCompleted i).raiseStarved l).budget = s.formBudget := by rw [hnear]
  have hdeficit : ((s.passCompleted i).raiseStarved l).deficit = s.deficit := by rw [hnear]
  have hplant : ((s.passCompleted i).raiseStarved l).plant = s.plant := by rw [hnear]; rfl
  rw [State.lateDeficit, htotal, hbudget, hdeficit, hplant]

end

/-- Settles O15: the close of a pass, the arbiter order, the answer to each request, and the bound on G. -/
theorem passKeepsToTheBudget : Obligations.PassKeepsToTheBudget := by
  refine ⟨?_, fun s => ⟨fun h => ?_, State.arbiterOrder_rotating⟩, ?_,
    fun s _ hflows => ⟨State.phases_grantedTotal hflows, s.phases_ctx⟩⟩
  · intro s i
    have hbudget := State.admissionPass_budget i s
    have hpointer := State.admissionPass_pointer i s
    have hdeficit := State.admissionPass_deficit i s
    have hclose := State.admissionPass_close i s
    have hlate := State.lateDeficit_pass i s (s.passStarving i)
    have admitted := State.admissionPass_admission i s
    generalize s.admissionPass i = t at *
    intro _ header foreign
    refine ⟨hbudget, hbudget ▸ hdeficit, orderBy (Config.strandRank i .blendSteps) strandIds, orderBy_perm _ _, ?_⟩
    intro dwelt u after
    have hu : u = s.passDwelt i := by
      rw [State.passDwelt_eq, State.passBlended, ← hbudget]
      rfl
    have hafter : after = s.passResults i := by
      change u.phases.state.takeResults u.phases.answers = _
      rw [hu]
      rfl
    rw [hu, hafter]
    refine ⟨hpointer, admitted, orderBy (Config.strandRank i .completions) strandIds, orderBy_perm _ _, ?_⟩
    intro starving told closed
    have hclosed : closed = ((s.passCompleted i).raiseStarved (s.passStarving i)).lateDeficit := by
      rw [hlate, State.raiseStarved_passStarving, ← hbudget]
      rfl
    rw [hclosed]
    change t = State.closedAt _ t.pointer t.deficit
    rw [hpointer, hdeficit]
    exact hclose
  · rw [State.arbiterOrder_fixed h]
    exact ⟨orderBy_perm _ _, orderBy_pairwise _ strandIds_pairwise⟩
  · intro s t asked real rising
    refine ⟨s.wins, s.took, s.verdict, ?_⟩
    intro easy total shadowed
    refine ⟨s.phases_sameRest, s.phases_won, fun k hk => ?_, fun pre k post h hr => State.wins_iff_room h hr,
      fun k h => State.phases_grants h, fun k h hw => State.phases_fallsBack h hw,
      fun pre k post h hk => State.phases_shadowAnswer h hk, fun k h => (State.phases_idle h).strand, s.shadowSum_bound, ?_⟩
    · exact Bool.eq_false_iff.mpr fun hw => ne_true_of_eq_false hk (State.wins_rising hw)
    · intro k c resulting
      exact (s.results_strand k).trans (by rw [Context.takeResult_eq])

end Sys2Proof.Machine

/-! SET_SLOT_BASE and SET_STRAND_MASK (R90, R105, R151). -/

namespace Sys2Proof.Machine

theorem strandIds_any {p : StrandId → Bool} : strandIds.any p = true ↔ ∃ k, p k = true := by
  simp [List.any_eq_true, mem_strandIds]

theorem State.mapStrands_mapStrands (s : State) (f g : StrandId → Strand → Strand) :
    (s.mapStrands f).mapStrands g = s.mapStrands fun k x => g k (f k x) :=
  State.ext_strands rfl fun k => by simp only [State.mapStrands_strand]

theorem State.busy_iff {s : State} : s.busy = true ↔ s.op ≠ .idle := by simp [State.busy]

/-- A strand's bit of the new mask is its bit of the operand word (R150). -/
theorem getLsbD_maskByte (w : Word) (k : StrandId) : (BitVec.ofNat 8 w.toNat).getLsbD k = w.getLsbD k := by
  simp only [BitVec.getLsbD, BitVec.toNat_ofNat, Nat.testBit_mod_two_pow, k.isLt, decide_true, Bool.true_and]

section
variable {s : State} {w : Word}

/-- The slot map moves only while every strand is PASSIVE (R151). -/
theorem setSlotBaseBody_idle (h : s.op = .idle) : setSlotBaseBody w s =
    if ∃ k, (s.ctx k).state ≠ .passive then .error .state
    else if 238 < w.toNat then .error .range
    else .ok ({ (s.setConfig fun c => { c with slotBase := some w.toNat }).mapStrands fun _ => Strand.unmap with
      plantIn := {}, dip := .normal, dipCount := 0 }, []) := by
  have hany : (strandIds.any fun k => (s.ctx k).state ≠ .passive) = true ↔ ∃ k, (s.ctx k).state ≠ .passive :=
    strandIds_any.trans (by simp)
  unfold setSlotBaseBody
  rw [if_neg (by simp [State.busy_iff, h])]
  simp only [hany]
  refine ite_congr rfl (fun _ => rfl) fun _ => ?_
  by_cases hw : 238 < w.toNat
  · rw [rangeWord_eq_none.mpr (.inr hw), if_pos hw]
  · rw [rangeWord_eq_some.mpr ⟨rfl, Nat.zero_le _, Nat.le_of_not_lt hw⟩, if_neg hw]
    dsimp only
    rw [forStrands_upd_all fun _ => Strand.unmap]

/-- A strand leaves the mask only while it is PASSIVE (R151). -/
theorem setStrandMaskBody_idle (h : s.op = .idle) : setStrandMaskBody w s =
    if 255 < w.toNat then .error .range
    else if ∃ k, s.working.config.inMask k = true ∧ w.getLsbD k = false ∧ (s.ctx k).state ≠ .passive then .error .state
    else .ok ((s.setConfig fun c => { c with mask := some (BitVec.ofNat 8 w.toNat) }).mapStrands fun k x =>
      if s.working.config.inMask k && !w.getLsbD k then x.unmap
      else if !s.working.config.inMask k && w.getLsbD k then { x with input := {} } else x, []) := by
  unfold setStrandMaskBody
  rw [if_neg (by simp [State.busy_iff, h])]
  by_cases hw : 255 < w.toNat
  · rw [rangeWord_eq_none.mpr (.inr hw), if_pos hw]
  · rw [rangeWord_eq_some.mpr ⟨rfl, Nat.zero_le _, Nat.le_of_not_lt hw⟩, if_neg hw]
    dsimp only
    simp only [getLsbD_maskByte, strandIds_any, Bool.not_eq_true, decide_eq_true_eq]
    refine ite_congr rfl (fun _ => rfl) fun _ => ?_
    rw [forStrands_upd_filter _ fun _ => Strand.unmap, forStrands_upd_filter _ fun _ x => { x with input := {} },
      State.mapStrands_mapStrands]
    congr 3
    funext k x
    cases s.working.config.inMask k <;> cases w.getLsbD k <;> rfl

end

/-- Settles O39: each owning rule's checks in their order, and the records its acceptance changes. -/
theorem slotBaseAndMaskMoveTheMap : Obligations.SlotBaseAndMaskMoveTheMap := by
  intro s q w ha unmapped was stays base mask
  have refused : ∀ (code : Word) {body : State → Answer} {r : Result}, body s = .error r →
      (.next (s.answer code q body) : Outcome) = .next (s.reply code q r []) :=
    fun _ _ _ h => congrArg _ (State.answer_error ha h)
  have accepted : ∀ (code : Word) {body : State → Answer} {t : State}, body s = .ok (t, []) →
      (.next (s.answer code q body) : Outcome) = .next (t.reply code q .ok []) :=
    fun _ _ _ h => congrArg _ (State.answer_ok ha h)
  have passive : (∀ k, (s.ctx k).state = .passive) → ¬ ∃ k, (s.ctx k).state ≠ .passive := fun h ⟨k, hk⟩ => hk (h k)
  refine ⟨fun hb => ⟨refused 20 (if_pos (State.busy_iff.mpr hb)), refused 21 (if_pos (State.busy_iff.mpr hb))⟩,
    fun hi hk => refused 20 ?_, fun hi hp hw => refused 20 ?_, fun hi hp hw => accepted 20 ?_,
    fun hi hw => refused 21 ?_, fun hi hw hk => refused 21 ?_, fun hi hw hp => accepted 21 ?_⟩
  · rw [setSlotBaseBody_idle hi, if_pos hk]
  · rw [setSlotBaseBody_idle hi, if_neg (passive hp), if_pos hw]
  · rw [setSlotBaseBody_idle hi, if_neg (passive hp), if_neg (Nat.not_lt.mpr hw)]
    rfl
  · rw [setStrandMaskBody_idle hi, if_pos hw]
  · rw [setStrandMaskBody_idle hi, if_neg (Nat.not_lt.mpr hw), if_pos hk]
  · rw [setStrandMaskBody_idle hi, if_neg (Nat.not_lt.mpr hw),
      if_neg fun ⟨k, hwas, hstays, hne⟩ => hne (hp k hwas hstays)]
    rfl

end Sys2Proof.Machine

/-! What a change of an input record brings to a strand, and the rows of the Input Monitor (R76 to R80, R84, R86). -/

namespace Sys2Proof.Machine

/-! ## Steps that each reach one strand -/

section
variable {s t : State}

theorem State.near.plantIn (h : s.near t) : t.plantIn = s.plantIn := by unfold State.near at h; rw [h]

theorem State.near.working (h : s.near t) : t.working = s.working := by unfold State.near at h; rw [h]

theorem State.near.plant (h : s.near t) : t.plant = s.plant := congrArg Image.plant h.working

theorem State.near.lim (h : s.near t) : t.lim = s.lim := by unfold State.lim State.limits; rw [h.working]

end

/-- Steps that each update their own strand, by a function of the records it had at first, are those updates. -/
theorem forStrands_eq_upd_own {l : List StrandId} (hl : l.Nodup) {f : StrandId → State → State}
    {g : StrandId → Strand → Strand} {s : State}
    (h : ∀ k ∈ l, ∀ t, s.near t → t.strand k = s.strand k → f k t = t.upd k (g k)) :
    forStrands l f s = forStrands l (fun k t => t.upd k (g k)) s := by
  induction l generalizing s with
  | nil => rfl
  | cons k l ih =>
    obtain ⟨hk, hl⟩ := List.nodup_cons.mp hl
    have first := h k List.mem_cons_self s s.near_refl rfl
    have later : ∀ j ∈ l, ∀ t, (s.upd k (g k)).near t → t.strand j = (s.upd k (g k)).strand j → f j t = t.upd j (g j) :=
      fun j hj t ht hs => h j (List.mem_cons_of_mem _ hj) t (State.near_trans (State.near_upd s k _) ht)
        (hs.trans (State.strand_upd_ne s (ne_of_mem_of_not_mem hj hk) _))
    calc forStrands l f (f k s) = forStrands l f (s.upd k (g k)) := by rw [first]
      _ = forStrands l (fun k t => t.upd k (g k)) (s.upd k (g k)) := ih hl later

/-! ## A change of the input record -/

theorem State.upd_raiseLoss (s : State) (k : StrandId) (f : Strand → Strand) (o : Option StrandId) (n : Nat)
    (a b : LossState) : (s.raiseLoss o n a b).upd k f = (s.upd k f).raiseLoss o n a b := by
  unfold State.raiseLoss
  split
  · rfl
  · exact State.upd_raise _ _ _ _ _ _
  · exact State.upd_raise _ _ _ _ _ _
  · rfl

/-- The records of a strand whose input record changes, with what that brings to SENSOR (R84). -/
def Strand.sensed (after : StrandInput) (x : Strand) : Strand :=
  { x with input := after, ctx := x.ctx.sensorChange x.input after }

/-- An input record changes: the strand's records, then the alarms, level before feedback (R77, R80, R84). -/
theorem State.sense_eq (s : State) (k : StrandId) (after : StrandInput) :
    (s.setInput k after).updCtx k (Context.sensorChange (s.strand k).input after)
      = ((s.upd k (Strand.sensed after)).raiseLoss (some k) 0 (s.strand k).input.lvl.loss after.lvl.loss).raiseLoss (some k) 1
          (s.strand k).input.fb.loss after.fb.loss := by
  have same : (s.upd k fun x => { x with input := after, ctx := x.ctx.sensorChange (s.strand k).input after })
      = s.upd k (Strand.sensed after) := State.upd_congr rfl
  unfold State.setInput State.updCtx
  dsimp only
  rw [State.upd_raiseLoss, State.upd_raiseLoss, State.upd_upd, same]

/-- An input that keeps its loss state raises no alarm (R80). -/
theorem State.raiseLoss_same (s : State) (o : Option StrandId) (n : Nat) (a : LossState) : s.raiseLoss o n a a = s := by
  cases a <;> rfl

section
variable {before after : StrandInput} {c : Context}

/-- A level input that leaves VALID adds SENSOR and zeroes the level excess count (R84, R86). -/
theorem Context.sensorChange_levelLost (hb : before.lvl.loss = .valid) (ha : after.lvl.loss ≠ .valid) :
    c.sensorChange before after = { c with levelExcess := 0 }.addReason .sensor := by
  simp [Context.sensorChange, hb, ha]

/-- A feedback input that leaves VALID alone adds SENSOR (R84). -/
theorem Context.sensorChange_feedbackLost (hl : after.lvl.loss = before.lvl.loss) (hb : before.fb.loss = .valid)
    (ha : after.fb.loss ≠ .valid) : c.sensorChange before after = c.addReason .sensor := by
  simp [Context.sensorChange, hl, hb, ha]

/-- No change of the loss states brings no change of SENSOR (R84). -/
theorem Context.sensorChange_same (hl : after.lvl.loss = before.lvl.loss) (hf : after.fb.loss = before.fb.loss) :
    c.sensorChange before after = c := by
  simp [Context.sensorChange, StrandInput.bothValid, hl, hf]

/-- An input that becomes VALID removes SENSOR where the strand's other input is VALID (R84). -/
theorem Context.sensorChange_levelClears (hb : before.lvl.loss ≠ .valid) (ha : after.lvl.loss = .valid)
    (hf : after.fb.loss = before.fb.loss) :
    c.sensorChange before after = if before.fb.loss = .valid then c.removeReason .sensor else c := by
  simp [Context.sensorChange, StrandInput.bothValid, hb, ha, hf]

theorem Context.sensorChange_feedbackClears (hb : before.fb.loss ≠ .valid) (ha : after.fb.loss = .valid)
    (hl : after.lvl.loss = before.lvl.loss) :
    c.sensorChange before after = if before.lvl.loss = .valid then c.removeReason .sensor else c := by
  simp [Context.sensorChange, StrandInput.bothValid, hb, ha, hl]

end

/-! ## Silence at a beat -/

/-- A VALID input is lost at a beat when its beats since fresh reach the window (R77). -/
def Input.lostAt (window : Nat) (i : Input) : Bool := decide (window ≤ satInc i.since) && decide (i.loss = .valid)

theorem Input.lostAt_iff {window : Nat} {i : Input} :
    i.lostAt window = true ↔ i.loss = .valid ∧ (i.age window).loss ≠ .valid := by
  unfold Input.lostAt Input.age
  by_cases hw : window ≤ satInc i.since <;> by_cases hv : i.loss = .valid <;> simp [hw, hv]

/-- The loss state after a beat (R77). -/
theorem Input.age_loss (window : Nat) (i : Input) : (i.age window).loss = if i.lostAt window then .loss .silent else i.loss := by
  unfold Input.lostAt Input.age
  by_cases hw : window ≤ satInc i.since <;> by_cases hv : i.loss = .valid <;> simp [hw, hv]

/-- The alarm of an input at a beat: LOSS with cause SILENT (R77, R80). -/
theorem State.raiseLoss_age (s : State) (o : Option StrandId) (n window : Nat) (i : Input) :
    s.raiseLoss o n i.loss (i.age window).loss = if i.lostAt window then s.raise .loss o n else s := by
  rw [Input.age_loss]
  by_cases hl : i.lostAt window = true
  · rw [if_pos hl, if_pos hl, (Input.lostAt_iff.mp hl).1]
    rfl
  · rw [if_neg hl, if_neg hl, State.raiseLoss_same]

/-- What one beat of the inputs brings to SENSOR (R77, R84, R86). -/
theorem Context.sensorChange_age (window : Nat) (r : StrandInput) (c : Context) : c.sensorChange r (r.age window) =
    let quiet := if r.lvl.lostAt window then { c with levelExcess := 0 } else c
    if r.lvl.lostAt window || r.fb.lostAt window then quiet.addReason .sensor else quiet := by
  have stays : ∀ i : Input, ¬ i.lostAt window = true → (i.age window).loss = i.loss := fun i h => by
    rw [Input.age_loss, if_neg h]
  by_cases hl : r.lvl.lostAt window = true
  · obtain ⟨hb, ha⟩ := Input.lostAt_iff.mp hl
    rw [Context.sensorChange_levelLost hb ha, hl]
    rfl
  · by_cases hf : r.fb.lostAt window = true
    · obtain ⟨hb, ha⟩ := Input.lostAt_iff.mp hf
      rw [Context.sensorChange_feedbackLost (stays _ hl) hb ha, Bool.eq_false_iff.mpr hl, hf]
      rfl
    · rw [Context.sensorChange_same (stays _ hl) (stays _ hf), Bool.eq_false_iff.mpr hl, Bool.eq_false_iff.mpr hf]
      rfl

/-- LOSS alarms one after the other, each with its strand and detail (R80). -/
def State.raiseLosses (l : List (Option StrandId × Nat)) (s : State) : State :=
  l.foldl (fun t a => t.raise .loss a.1 a.2) s

/-- The LOSS alarms of strand k at a beat (R77). -/
def Strand.lossAlarms (window : Nat) (k : StrandId) (x : Strand) : List (Option StrandId × Nat) :=
  (if x.input.lvl.lostAt window then [(some k, 0)] else []) ++ if x.input.fb.lostAt window then [(some k, 1)] else []

/-- The records of a strand after its inputs have aged by a beat (R76, R77, R84). -/
def Strand.aged (window : Nat) (x : Strand) : Strand := x.sensed (x.input.age window)

theorem State.raiseLosses_near (l : List (Option StrandId × Nat)) (s : State) :
    s.near (s.raiseLosses l) ∧ ∀ k, (s.raiseLosses l).strand k = s.strand k := by
  induction l generalizing s with
  | nil => exact ⟨s.near_refl, fun _ => rfl⟩
  | cons a l ih =>
    obtain ⟨hn, hs⟩ := ih (s.raise .loss a.1 a.2)
    exact ⟨State.near_trans (State.near_raise _ _ _ _) hn, fun k => (hs k).trans (State.strand_raise _ _ _ _ _)⟩

theorem State.upd_raiseLosses (l : List (Option StrandId × Nat)) (s : State) (k : StrandId) (f : Strand → Strand) :
    (s.raiseLosses l).upd k f = (s.upd k f).raiseLosses l := by
  induction l generalizing s with
  | nil => rfl
  | cons a l ih =>
    calc ((s.raise .loss a.1 a.2).raiseLosses l).upd k f = ((s.raise .loss a.1 a.2).upd k f).raiseLosses l := ih _
      _ = ((s.upd k f).raise .loss a.1 a.2).raiseLosses l := by rw [State.upd_raise]

theorem forStrands_upd_raiseLosses (l : List StrandId) (f : StrandId → Strand → Strand) (a : List (Option StrandId × Nat))
    (s : State) : forStrands l (fun k t => t.upd k (f k)) (s.raiseLosses a)
      = (forStrands l (fun k t => t.upd k (f k)) s).raiseLosses a := by
  induction l generalizing s with
  | nil => rfl
  | cons k l ih =>
    calc forStrands l _ ((s.raiseLosses a).upd k (f k)) = forStrands l _ ((s.upd k (f k)).raiseLosses a) := by
          rw [State.upd_raiseLosses]
      _ = _ := ih _

theorem State.raiseLosses_append (a b : List (Option StrandId × Nat)) (s : State) :
    (s.raiseLosses a).raiseLosses b = s.raiseLosses (a ++ b) := (List.foldl_append ..).symm

/-- The plant input record and LOSS alarms do not meet. -/
theorem State.raiseLosses_plantIn (l : List (Option StrandId × Nat)) (s : State) (r : PlantInput) :
    { s.raiseLosses l with plantIn := r } = State.raiseLosses l { s with plantIn := r } := by
  have one : ∀ (t : State) (a : Option StrandId × Nat),
      { t.raise .loss a.1 a.2 with plantIn := r } = State.raise { t with plantIn := r } .loss a.1 a.2 := fun t a => by
    unfold State.raise
    dsimp only
    split <;> rfl
  induction l generalizing s with
  | nil => rfl
  | cons a l ih =>
    calc { (s.raise .loss a.1 a.2).raiseLosses l with plantIn := r }
        = State.raiseLosses l { s.raise .loss a.1 a.2 with plantIn := r } := ih _
      _ = State.raiseLosses l (State.raise { s with plantIn := r } .loss a.1 a.2) := by rw [one]

/-- A strand input record ages by one beat: the strand's records, then its alarms (R76, R77, R84). -/
theorem State.ageStrand_eq (k : StrandId) (s : State) : s.ageStrand k =
    (s.upd k (Strand.aged s.plant.lossWindow)).raiseLosses ((s.strand k).lossAlarms s.plant.lossWindow k) := by
  have same : s.upd k (Strand.sensed ((s.strand k).input.age s.plant.lossWindow))
      = s.upd k (Strand.aged s.plant.lossWindow) := State.upd_congr rfl
  unfold State.ageStrand
  dsimp only
  rw [State.sense_eq, same]
  unfold StrandInput.age Strand.lossAlarms
  dsimp only
  rw [State.raiseLoss_age, State.raiseLoss_age]
  cases (s.strand k).input.lvl.lostAt s.plant.lossWindow <;> cases (s.strand k).input.fb.lostAt s.plant.lossWindow <;> rfl

/-- Several strand input records age, and the alarms follow strand by strand (R76, R77). -/
theorem forStrands_ageStrand (l : List StrandId) (hl : l.Nodup) (s : State) : forStrands l State.ageStrand s =
    (forStrands l (fun k t => t.upd k (Strand.aged s.plant.lossWindow)) s).raiseLosses
      (l.flatMap fun k => (s.strand k).lossAlarms s.plant.lossWindow k) := by
  induction l generalizing s with
  | nil => rfl
  | cons k l ih =>
    obtain ⟨hk, hl⟩ := List.nodup_cons.mp hl
    obtain ⟨hnear, hstr⟩ := State.raiseLosses_near ((s.strand k).lossAlarms s.plant.lossWindow k)
      (s.upd k (Strand.aged s.plant.lossWindow))
    have hage := State.ageStrand_eq k s
    have hplant : (s.ageStrand k).plant = s.plant := hage ▸ hnear.plant
    have hsame : ∀ j ∈ l, ((s.ageStrand k).strand j).lossAlarms s.plant.lossWindow j
        = (s.strand j).lossAlarms s.plant.lossWindow j := fun j hj => by
      rw [hage, hstr, State.strand_upd_ne s (ne_of_mem_of_not_mem hj hk)]
    have hrest := ih hl (s.ageStrand k)
    rw [hplant, List.flatMap_congr hsame, hage, forStrands_upd_raiseLosses] at hrest
    rw [List.flatMap_cons, ← State.raiseLosses_append]
    change forStrands l State.ageStrand (s.ageStrand k) = _
    rw [hage]
    exact hrest

/-- What the Input Monitor does at a beat (R76, R77, R84). -/
theorem State.inputBeat_eq (s : State) : s.inputBeat =
    State.raiseLosses ((strandIds.flatMap fun k => (s.strand k).lossAlarms s.plant.lossWindow k)
        ++ if s.plantIn.inp.lostAt s.plant.lossWindow then [(none, 2)] else [])
      { s.mapStrands (fun _ => Strand.aged s.plant.lossWindow) with
        plantIn := { s.plantIn with inp := s.plantIn.inp.age s.plant.lossWindow } } := by
  have hstrands : forStrands strandIds State.ageStrand s = (s.mapStrands fun _ => Strand.aged s.plant.lossWindow).raiseLosses
      (strandIds.flatMap fun k => (s.strand k).lossAlarms s.plant.lossWindow k) := by
    rw [forStrands_ageStrand _ strandIds_nodup, forStrands_upd_all fun _ => Strand.aged s.plant.lossWindow]
  have hnear := (State.raiseLosses_near (strandIds.flatMap fun k => (s.strand k).lossAlarms s.plant.lossWindow k)
    (s.mapStrands fun _ => Strand.aged s.plant.lossWindow)).1
  rw [← hstrands] at hnear
  have hplantIn : (forStrands strandIds State.ageStrand s).plantIn = s.plantIn := hnear.plantIn
  have hplant : (forStrands strandIds State.ageStrand s).plant = s.plant := hnear.plant
  unfold State.inputBeat State.setPlantInput
  dsimp only
  rw [hplantIn, hplant, State.raiseLoss_age, hstrands, State.raiseLosses_plantIn, ← State.raiseLosses_append]
  cases s.plantIn.inp.lostAt s.plant.lossWindow <;> rfl

/-! ## The rows of the Input Monitor -/

theorem Input.age_silent {window : Nat} {i : Input} (hv : i.loss = .valid) (hw : window ≤ satInc i.since) :
    i.age window = { loss := .loss .silent, since := satInc i.since, clearRun := 0 } := by
  simp [Input.age, hv, hw]

theorem Input.sample_clear {n : Nat} {i : Input} (hv : i.loss ≠ .valid) (hn : n ≤ min 255 (i.clearRun + 1)) :
    i.sample n true = { loss := .valid, since := 0, clearRun := 0 } := by
  simp only [Input.sample, if_neg hv, hn, and_self, if_true]

theorem Input.clearDue_iff {n : Nat} {i : Input} : i.clearDue n = true ↔ i.loss ≠ .valid ∧ n ≤ min 255 (i.clearRun + 1) := by
  simp [Input.clearDue]

section
variable {s : State} {k : StrandId} {after : StrandInput}

/-- A level input enters LOSS: the records and the alarm (R77, R78, R80, R84, R86). -/
theorem State.sense_levelLost {why : LossCause} (hb : (s.strand k).input.lvl.loss = .valid) (ha : after.lvl.loss = .loss why)
    (hf : after.fb = (s.strand k).input.fb) :
    (s.setInput k after).updCtx k (Context.sensorChange (s.strand k).input after)
      = (s.withStrand k { s.strand k with
          input := after, ctx := { s.ctx k with levelExcess := 0 }.addReason .sensor }).raise .loss (some k) (256 * why.code) := by
  have hctx : (s.ctx k).sensorChange (s.strand k).input after = { s.ctx k with levelExcess := 0 }.addReason .sensor :=
    Context.sensorChange_levelLost hb (by rw [ha]; nofun)
  rw [State.sense_eq, hf, State.raiseLoss_same, hb, ha, ← hctx, ← Nat.zero_add (256 * why.code)]
  rfl

/-- A feedback input falls silent: the records and the alarm (R77, R80, R84). -/
theorem State.sense_feedbackSilent (hb : (s.strand k).input.fb.loss = .valid) (ha : after.fb.loss = .loss .silent)
    (hl : after.lvl = (s.strand k).input.lvl) :
    (s.setInput k after).updCtx k (Context.sensorChange (s.strand k).input after)
      = (s.withStrand k { s.strand k with input := after, ctx := (s.ctx k).addReason .sensor }).raise .loss (some k) 1 := by
  have hctx : (s.ctx k).sensorChange (s.strand k).input after = (s.ctx k).addReason .sensor :=
    Context.sensorChange_feedbackLost (by rw [hl]) hb (by rw [ha]; nofun)
  rw [State.sense_eq, hl, State.raiseLoss_same, hb, ha, ← hctx]
  rfl

/-- A level input leaves LOSS: the records and the alarm (R79, R80, R84). -/
theorem State.sense_levelClears {why : LossCause} (hb : (s.strand k).input.lvl.loss = .loss why) (ha : after.lvl.loss = .valid)
    (hf : after.fb = (s.strand k).input.fb) :
    (s.setInput k after).updCtx k (Context.sensorChange (s.strand k).input after)
      = (s.withStrand k { s.strand k with
          input := after
          ctx := if (s.strand k).input.fb.loss = .valid then (s.ctx k).removeReason .sensor else s.ctx k }).raise
        .lossClear (some k) 0 := by
  have hctx : (s.ctx k).sensorChange (s.strand k).input after = _ :=
    Context.sensorChange_levelClears (by rw [hb]; nofun) ha (by rw [hf])
  rw [State.sense_eq, hf, State.raiseLoss_same, hb, ha, ← hctx]
  rfl

/-- A feedback input leaves LOSS: the records and the alarm (R79, R80, R84). -/
theorem State.sense_feedbackClears {why : LossCause} (hb : (s.strand k).input.fb.loss = .loss why) (ha : after.fb.loss = .valid)
    (hl : after.lvl = (s.strand k).input.lvl) :
    (s.setInput k after).updCtx k (Context.sensorChange (s.strand k).input after)
      = (s.withStrand k { s.strand k with
          input := after
          ctx := if (s.strand k).input.lvl.loss = .valid then (s.ctx k).removeReason .sensor else s.ctx k }).raise
        .lossClear (some k) 1 := by
  have hctx : (s.ctx k).sensorChange (s.strand k).input after = _ :=
    Context.sensorChange_feedbackClears (by rw [hb]; nofun) ha (by rw [hl])
  rw [State.sense_eq, hl, State.raiseLoss_same, hb, ha, ← hctx]
  rfl

end

/-- Settles O18: the beat of the Input Monitor as the aged records and their alarms, and each row at the count it stands for. -/
theorem inputsLoseAndClear : Obligations.InputsLoseAndClear := by
  constructor
  · intro s since silent lost aged next alarms
    have hlost : ∀ i : Input, lost i = i.lostAt s.plant.lossWindow := fun _ => rfl
    have haged : ∀ i : Input, aged i = i.age s.plant.lossWindow := fun i => if_congr decide_eq_true_iff rfl rfl
    have hvaried : ∀ r : StrandInput, (!silent r.lvl && r.varied) = (r.age s.plant.lossWindow).varied := fun r => by
      change (!decide (s.plant.lossWindow ≤ satInc r.lvl.since) && r.varied)
        = if s.plant.lossWindow ≤ satInc r.lvl.since then false else r.varied
      by_cases hw : s.plant.lossWindow ≤ satInc r.lvl.since <;> simp [hw]
    have hnext : ∀ x : Strand, next x = x.aged s.plant.lossWindow := fun x => by
      unfold Strand.aged Strand.sensed
      rw [Context.sensorChange_age]
      simp only [next, hlost, haged, hvaried]
      rfl
    have hstrands : s.mapStrands (fun _ => next) = s.mapStrands fun _ => Strand.aged s.plant.lossWindow :=
      State.mapStrands_congr fun k => hnext _
    rw [State.inputBeat_eq, hstrands, haged]
    rfl
  · intro s k x r quiet since
    have clears : ∀ {i : Input} {why : LossCause}, i.loss = .loss why → i.loss ≠ .valid := fun h => by rw [h]; nofun
    have due : ∀ {i : Input} {why : LossCause}, i.loss = .loss why → s.plant.clearCount ≤ min (i.clearRun + 1) 255 →
        s.plant.clearCount ≤ min 255 (i.clearRun + 1) := fun _ h => by rwa [min_comm] at h
    refine ⟨fun hv hw => ?_, fun hv hw => ?_, fun hv hw => ?_, fun hv hw => ?_, fun why hl hn hvar => ?_,
      fun why hl hn => ?_, fun why hl hn => ?_⟩
    · have hage : (s.strand k).input.lvl.age s.plant.lossWindow = _ := Input.age_silent hv hw
      refine congrArg Host.Outcome.next ((if_pos hw).trans ((State.sense_levelLost (why := .silent) hv ?_ ?_).trans ?_))
      · exact congrArg Input.loss hage
      · rfl
      · rw [hage]; rfl
    · have hage : (s.strand k).input.fb.age s.plant.lossWindow = _ := Input.age_silent hv hw
      refine congrArg Host.Outcome.next ((if_pos hw).trans ((State.sense_feedbackSilent hv ?_ ?_).trans ?_))
      · exact congrArg Input.loss hage
      · rfl
      · rw [hage]; rfl
    · refine congrArg Host.Outcome.next ((if_pos hw).trans ?_)
      unfold State.setPlantInput
      rw [Input.age_silent hv hw, hv]
      rfl
    · exact congrArg Host.Outcome.next ((if_pos ⟨hv, hw⟩).trans (State.sense_levelLost (why := .frozen) hv rfl rfl))
    · have hclear : (s.strand k).input.lvl.sample s.plant.clearCount true = _ := Input.sample_clear (clears hl) (due hl hn)
      refine congrArg Host.Outcome.next ((if_pos ⟨Input.clearDue_iff.mpr ⟨clears hl, due hl hn⟩, hvar⟩).trans
        ((State.sense_levelClears hl ?_ ?_).trans ?_))
      · exact congrArg Input.loss hclear
      · rfl
      · rw [hclear]; rfl
    · have hclear : (s.strand k).input.fb.sample s.plant.clearCount true = _ := Input.sample_clear (clears hl) (due hl hn)
      refine congrArg Host.Outcome.next ((if_pos (Input.clearDue_iff.mpr ⟨clears hl, due hl hn⟩)).trans
        ((State.sense_feedbackClears hl ?_ ?_).trans ?_))
      · exact congrArg Input.loss hclear
      · rfl
      · rw [hclear]; rfl
    · refine congrArg Host.Outcome.next ((if_pos (Input.clearDue_iff.mpr ⟨clears hl, due hl hn⟩)).trans ?_)
      unfold State.setPlantInput
      rw [Input.sample_clear (clears hl) (due hl hn), hl]
      rfl

end Sys2Proof.Machine

/-! The follow check and the trips that the sequencer's counts bring (R86, R88, R92, R102). -/

namespace Sys2Proof.Machine

section
variable {s t : State} {k : StrandId} {acc : Nat}

/-- A gap that counts: a real run with VALID feedback, DIP not held, the reading off the output speed by more than the follow
band (R88). -/
theorem State.followGap_iff : s.followGap acc k = true ↔
    (s.ctx k).realRun = true ∧ (s.strand k).input.fb.loss = .valid ∧ (s.ctx k).hold.dip = false
      ∧ ((s.strand k).input.feedback.getD 0 + s.lim.speed.followBand < acc / 64
        ∨ acc / 64 + s.lim.speed.followBand < (s.strand k).input.feedback.getD 0) := by
  have hband : ∀ b v a : Nat, b < ((v : Int) - (a : Nat)).natAbs ↔ v + b < a ∨ a + b < v := by omega
  simp only [State.followGap, decide_eq_true_eq, Bool.not_eq_true, hband]
  rfl

theorem State.followGap_near (h : s.near t) (hk : t.strand k = s.strand k) : t.followGap acc k = s.followGap acc k := by
  unfold State.followGap
  rw [h.lim, hk]

/-- The records of a strand after the follow check has counted at it; `gap` says whether the gap counts (R88). -/
def Strand.followed (gap : Bool) (x : Strand) : Strand :=
  if x.ctx.realRun then { x with ctx := { x.ctx with followCount := if gap then satInc x.ctx.followCount else 0 } } else x

theorem State.countFollow_eq (acc : Nat) (k : StrandId) (s : State) :
    s.countFollow acc k = s.upd k (Strand.followed (s.followGap acc k)) := by
  unfold State.countFollow
  split
  · next h => exact State.upd_congr (if_pos h).symm
  · next h => exact (State.upd_self (if_neg h)).symm

/-- The counts of one beat, at every strand at once (R88). -/
theorem State.countFollows_eq (acc : StrandId → Nat) (s : State) :
    forStrands strandIds (fun k s => s.countFollow (acc k) k) s
      = s.mapStrands fun k => Strand.followed (s.followGap (acc k) k) := by
  have each : ∀ k ∈ strandIds, ∀ t, s.near t → t.strand k = s.strand k →
      t.countFollow (acc k) k = t.upd k (Strand.followed (s.followGap (acc k) k)) := fun k _ t ht hk => by
    rw [State.countFollow_eq, State.followGap_near ht hk]
  rw [forStrands_eq_upd_own strandIds_nodup each, forStrands_upd_all]

/-- Trip entry does not depend on the counts of the run that it ends (R2, R22). -/
theorem State.tripOne_countFollow (h : (s.ctx k).realRun = true) :
    (s.countFollow acc k).tripOne .follow k = s.tripOne .follow k := by
  have hx : (s.strand k).followed (s.followGap acc k) = _ := if_pos h
  have hrun : ((s.countFollow acc k).ctx k).realRun = true := by
    rw [State.countFollow_eq, State.ctx, State.strand_upd_same, hx]
    exact h
  rw [State.tripOne_entered .follow (.inl hrun), State.tripOne_entered .follow (.inl h), State.countFollow_eq, State.upd_upd]
  refine congrArg (fun u : State => (State.count u _).raise .trip (some k) _) (State.upd_congr ?_)
  rw [hx]
  rfl

end

/-- Settles O21: each row trips its strand at the count it stands for, and a beat counts at every real run before it trips. -/
theorem levelAndFollowTrips : Obligations.LevelAndFollowTrips := by
  refine ⟨fun s k => ?_, fun s i acc => ?_⟩
  · intro x
    refine ⟨fun p hr hp hv hc => ?_, fun v hr hv hfb hd hgap hc => ?_⟩
    · have hprofile : s.profileOf (s.ctx k) = s.working.profile p := by
        unfold State.profileOf
        rw [show (s.ctx k).profile = some p from hp]
      refine congrArg Host.Outcome.next ((if_pos ⟨hr, hv, ?_⟩).trans (State.tripAll_one _ _ _))
      rw [hprofile]
      exact hc
    · have hreached : s.followReached (s.ctx k).acc k = true := by
        unfold State.followReached
        refine decide_eq_true ⟨State.followGap_iff.mpr ⟨hr, hv, hd, ?_⟩, hc⟩
        rw [show (s.strand k).input.feedback = some v from hfb]
        exact hgap
      refine congrArg Host.Outcome.next ((if_pos hreached).trans ?_)
      rw [State.tripAll_one, State.tripOne_countFollow hr]
  · intro gap count counted
    have hgap : ∀ k, s.followGap (acc k) k = true ↔ gap k := fun k => State.followGap_iff
    have hcount : ∀ k, (if s.followGap (acc k) k then satInc (s.ctx k).followCount else 0) = count k :=
      fun k => if_congr (hgap k) rfl rfl
    have hcounted : forStrands strandIds (fun k s => s.countFollow (acc k) k) s = counted := by
      rw [State.countFollows_eq]
      refine State.mapStrands_congr fun k => ?_
      unfold Strand.followed
      rw [← hcount]
      rfl
    refine ⟨(orderBy (Config.strandRank i .followTrips) strandIds).filter fun k => s.followReached (acc k) k, ?_, ?_⟩
    · refine ((orderBy_perm _ _).filter _).trans (List.Perm.of_eq (List.filter_congr fun k _ => ?_))
      refine decide_eq_decide.mpr ?_
      rw [← hgap, ← hcount]
      exact and_congr_right fun h => by rw [if_pos h]
    · rw [← hcounted, ← State.tripAll_eq_settled]
      rfl

end Sys2Proof.Machine

/-! PLANT_SAMPLE: the plant record, dip begin and dip end, the weight (R79 to R82, R98, R100, R103, R106, R107, R111, R112). -/

namespace Sys2Proof.Machine

/-! ## Dip begin and dip end -/

/-- Dip begin: every running strand receives DIP and is marked for re-seeding (R107). -/
theorem State.dipBegin_eq (s : State) : s.dipBegin =
    { s.mapStrands (fun _ x => if x.ctx.running then { x with ctx := x.ctx.receiveDip } else x) with
      dip := .dipped, dipCount := 0 }.raise .dipBegin none (strandIds.filter fun k => (s.ctx k).running).length := by
  have strands : forStrands (strandIds.filter fun k => (s.ctx k).running) (fun k s => s.updCtx k Context.receiveDip)
        { s with dip := .dipped, dipCount := 0 }
      = State.mapStrands { s with dip := .dipped, dipCount := 0 }
          fun k x => if (s.ctx k).running then { x with ctx := x.ctx.receiveDip } else x :=
    forStrands_upd_filter _ (fun _ x => { x with ctx := x.ctx.receiveDip }) _
  have own : State.mapStrands { s with dip := .dipped, dipCount := 0 }
        (fun k x => if (s.ctx k).running then { x with ctx := x.ctx.receiveDip } else x)
      = State.mapStrands { s with dip := .dipped, dipCount := 0 }
          fun _ x => if x.ctx.running then { x with ctx := x.ctx.receiveDip } else x :=
    State.mapStrands_congr fun _ => rfl
  unfold State.dipBegin
  dsimp only
  rw [strands, own]
  rfl

/-- The records of a strand re-seeded at dip end: its context, and the change override again where it applies (R103, R112). -/
def State.reseededStrand (s : State) (x : Strand) : Strand :=
  let y := s.reseeded x.input.reseedSpeed x.ctx
  if s.change = .lowering ∧ x.ctx.enrolled = true then
    { x with
      mark := some (min y.acc (s.changeSpeed * 64))
      ctx := { y with
        target := some (if s.changeSpeed * 64 < y.acc then s.changeSpeed else y.acc / 64)
        rate := some (min s.plant.changeRate s.lim.speed.maxRate) } }
  else { x with ctx := y }

theorem State.reseededStrand_near {s t : State} (h : s.near t) : t.reseededStrand = s.reseededStrand := by
  unfold State.near at h; rw [h]; rfl

/-- A strand's records after it enters segment n of profile p, with the change override where it applies (R36, R103). -/
def State.enteredSegment (s : State) (p : ProfileId) (n : Fin 8) (x : Strand) : Strand :=
  let y := s.loadSegment (s.working.segment p n) { x.ctx with segment := some (.seg n), dwell := 0, confirmSeen := false }
  if s.change = .lowering ∧ x.ctx.enrolled = true then
    { x with
      mark := some (min x.ctx.acc (s.changeSpeed * 64))
      ctx := { y with
        target := some (if s.changeSpeed * 64 < x.ctx.acc then s.changeSpeed else x.ctx.acc / 64)
        rate := some (min s.plant.changeRate s.lim.speed.maxRate) } }
  else { x with ctx := y }

/-- Segment entry, with the change override on it where it applies (R36, R95, R103). -/
theorem State.enterSegment_overridden {s : State} {k : StrandId} {p : ProfileId} (n : Fin 8) (hp : (s.ctx k).profile = some p) :
    s.enterSegment k n = s.upd k (s.enteredSegment p n) := by
  have applies : ∀ f : Context → Context, (f (s.ctx k)).enrolled = (s.ctx k).enrolled →
      ((s.updCtx k f).overridden k = true ↔ s.change = .lowering ∧ (s.ctx k).enrolled = true) := fun f hf => by
    rw [State.overridden_iff, State.ctx_updCtx, if_pos rfl, hf]
    exact Iff.rfl
  unfold State.enterSegment
  rw [hp]
  dsimp only
  by_cases h : s.change = .lowering ∧ (s.ctx k).enrolled = true
  · rw [if_pos ((applies _ rfl).mpr h), State.applyOverride, State.updCtx, State.upd_upd]
    exact State.upd_congr (if_pos (c := s.change = .lowering ∧ (s.ctx k).enrolled = true) h).symm
  · rw [if_neg fun hn => h ((applies _ rfl).mp hn)]
    exact State.upd_congr (if_neg (c := s.change = .lowering ∧ (s.ctx k).enrolled = true) h).symm

/-- The re-seed of a strand that runs a profile (R112). -/
theorem State.reseedStrand_eq {s : State} {k : StrandId} {p : ProfileId} (hp : (s.ctx k).profile = some p) :
    s.reseedStrand k = s.upd k s.reseededStrand := by
  have hprofile : s.profileOf (s.ctx k) = s.working.profile p := by unfold State.profileOf; rw [hp]
  have hp' : (s.strand k).ctx.profile = some p := hp
  unfold State.reseedStrand
  dsimp only
  rw [State.enterSegment_overridden (p := p) _ (by rw [State.ctx_updCtx, if_pos rfl]; exact hp), hprofile]
  unfold State.updCtx
  rw [State.upd_upd, State.upd_upd]
  refine State.upd_congr ?_
  unfold State.enteredSegment
  simp only [State.reseededStrand, State.reseeded, hp', Context.removeReason_eq]
  by_cases h : s.change = .lowering ∧ (s.strand k).ctx.enrolled = true
  · rw [if_pos h, if_pos (c := (s.upd k _).change = .lowering ∧ _) h]
    rfl
  · rw [if_neg h, if_neg (c := (s.upd k _).change = .lowering ∧ _) h]
    rfl

/-- Dip end: every strand marked for it is re-seeded (R111, R112). -/
theorem State.dipEnd_eq {s : State} (h : ∀ k, (s.ctx k).reseed = true → (s.ctx k).profile.isSome = true) : s.dipEnd =
    { s.mapStrands (fun _ x => if x.ctx.reseed then s.reseededStrand x else x) with dip := .normal }.raise .dipEnd none
      (strandIds.filter fun k => (s.ctx k).reseed).length := by
  have each : ∀ k ∈ strandIds.filter fun k => (s.ctx k).reseed, ∀ t, State.near { s with dip := .normal } t →
      t.strand k = State.strand { s with dip := .normal } k → t.reseedStrand k = t.upd k s.reseededStrand :=
    fun k hk t ht hs => by
      obtain ⟨p, hp⟩ := Option.isSome_iff_exists.mp (h k (List.mem_filter.mp hk).2)
      rw [State.reseedStrand_eq (p := p) ((congrArg (fun x => x.ctx.profile) hs).trans hp), State.reseededStrand_near ht]
      rfl
  have own : State.mapStrands { s with dip := .normal } (fun k x => if (s.ctx k).reseed then s.reseededStrand x else x)
      = State.mapStrands { s with dip := .normal } fun _ x => if x.ctx.reseed then s.reseededStrand x else x :=
    State.mapStrands_congr fun _ => rfl
  unfold State.dipEnd
  dsimp only
  rw [forStrands_eq_upd_own (strandIds_nodup.filter _) each, forStrands_upd_filter, own]
  rfl

/-! ## A plant sample -/

/-- The plant record that a fresh sample leaves (R79, R81). -/
theorem PlantInput.take_eq (pl : Plant) (x : PlantReading) (r : PlantInput) :
    let inp := if r.inp.loss ≠ .valid ∧ pl.clearCount ≤ min 255 (r.inp.clearRun + 1) then
        ({ loss := .valid, since := 0, clearRun := 0 } : Input)
      else { r.inp with since := 0, clearRun := if r.inp.loss = .valid then r.inp.clearRun else min 255 (r.inp.clearRun + 1) }
    r.take pl x = { weight := some x.weight, capacity := some x.capacity, seq := some x.seq, inp
                    dip := if inp.loss = .valid then x.dip else r.dip } := by
  have hinp := Input.sample_eq pl.clearCount true r.inp
  simp only [and_true] at hinp
  unfold PlantInput.take
  rw [hinp]

section
variable {s : State} {o : Option StrandId} {n : Nat} {before after : LossState}

section
variable {s t : State}

theorem State.near.change (h : s.near t) : t.change = s.change := by unfold State.near at h; rw [h]

theorem State.near.dip (h : s.near t) : t.dip = s.dip := by unfold State.near at h; rw [h]

theorem State.near.fail (h : s.near t) : t.fail = s.fail := by unfold State.near at h; rw [h]

end

theorem State.raiseLoss_near (s : State) (o : Option StrandId) (n : Nat) (a b : LossState) : s.near (s.raiseLoss o n a b) := by
  rcases State.raiseLoss_cases s o n a b with h | ⟨_, _, h⟩ <;> rw [h]
  · exact s.near_refl
  · exact s.near_raise _ _ _

/-- A fresh sample at an input in LOSS raises LOSS_CLEAR where it clears it, and no other alarm (R79, R80). -/
theorem State.raiseLoss_cleared {why : LossCause} (h : after = .valid ∨ after = .loss why) :
    s.raiseLoss o n (.loss why) after = if after = .valid then s.raise .lossClear o n else s := by
  rcases h with rfl | rfl <;> rfl

/-- A fresh sample at an input that is not in LOSS raises no alarm (R80). -/
theorem State.raiseLoss_quiet (hb : ∀ why, before ≠ .loss why) (h : after = .valid ∨ after = before) :
    s.raiseLoss o n before after = s := by
  cases before with
  | loss why => exact absurd rfl (hb why)
  | nodata => rcases h with rfl | rfl <;> rfl
  | valid => rcases h with rfl | rfl <;> rfl

/-- The dip flag of a sample that leaves the plant input VALID, by the flag in force before it (R106). -/
theorem State.takeDipFlag_eq (before flag : Bool) : s.takeDipFlag before flag =
    if before = false ∧ flag = true then s.dipBegin else if before = true ∧ flag = false then s.dipEnd else s := by
  cases before <;> cases flag <;> rfl

end

/-- Settles O22: the plant record, then the dip state, then the change, one equation for each. -/
theorem plantSampleTaken : Obligations.PlantSampleTaken := by
  intro s f a b c d huse hpay r clears inp flag now written cleared reseed dipped weight weighed
  have hexec : exec (.plantSample f) s = .next (s.plantFrame f) := by
    change execPlantSample f s = _
    unfold execPlantSample
    rw [huse]
  have hframe : s.plantFrame f = if s.loading then s.send f else (s.send f).takePlant (readPlant a b c d) := by
    unfold State.plantFrame
    rw [hpay]
  have hinp : inp = r.inp.sample s.plant.clearCount true := by rw [Input.sample_eq]; simp only [and_true]; rfl
  have hnow : (s.send f).plantIn.take (s.send f).plant (readPlant a b c d) = now := by rw [PlantInput.take_eq]; rfl
  have hloss : inp.loss = .valid ∨ inp.loss = r.inp.loss := hinp ▸ Input.sample_loss _ _ _
  have hcleared : (s.send f).setPlantInput now = cleared := by
    change written.raiseLoss none 2 r.inp.loss inp.loss = cleared
    unfold cleared
    cases hr : r.inp.loss with
    | loss why => exact State.raiseLoss_cleared (hr ▸ hloss)
    | nodata => exact State.raiseLoss_quiet (by nofun) (hr ▸ hloss)
    | valid => exact State.raiseLoss_quiet (by nofun) (hr ▸ hloss)
  have hnear : written.near cleared := hcleared ▸ State.raiseLoss_near _ _ _ _ _
  have hstrand : ∀ k, cleared.strand k = s.strand k := fun k =>
    hcleared ▸ State.setPlantInput_strands (s.send f) now k
  have hfresh : s.loading = false → r.seq ≠ some d → s.plantFrame f =
      if inp.loss = .valid then (cleared.takeDipFlag r.dip flag).takeWeight weight else cleared := fun hl hs => by
    have hseen : (s.send f).plantIn.seq ≠ some (readPlant a b c d).seq := hs
    rw [hframe, hl, if_neg Bool.false_ne_true, State.takePlant, if_neg hseen, hnow]
    dsimp only
    rw [hcleared]
    rfl
  refine ⟨fun h => ?_, fun hl hs hv => ?_, fun hl hs hv hprofile => ?_⟩
  · rw [hexec, hframe]
    rcases h with h | h
    · rw [if_pos h]
    · have hseen : (s.send f).plantIn.seq = some (readPlant a b c d).seq := h
      rw [State.takePlant, if_pos hseen, ite_self]
  · have hsame : cleared = written := by
      rw [← hcleared]
      change written.raiseLoss none 2 r.inp.loss inp.loss = written
      rw [hloss.resolve_left hv, State.raiseLoss_same]
    rw [hexec, hfresh hl hs, if_neg hv, hsame]
  · have hdipped : cleared.takeDipFlag r.dip flag = dipped := by
      rw [State.takeDipFlag_eq]
      have hctx : ∀ k, cleared.ctx k = s.ctx k := fun k => congrArg Strand.ctx (hstrand k)
      refine ite_congr rfl (fun _ => ?_) fun _ => ite_congr rfl (fun hd => ?_) fun _ => rfl
      · rw [State.dipBegin_eq]
        simp only [hctx]
        rfl
      · rw [State.dipEnd_eq fun k => hctx k ▸ hprofile hd.1 hd.2 k, State.reseededStrand_near hnear]
        simp only [hctx]
        rfl
    have hsame : dipped.change = s.change ∧ dipped.plant = s.plant := by
      have raised : ∀ (t : State) a n, t.change = s.change ∧ t.plant = s.plant →
          (t.raise a none n).change = s.change ∧ (t.raise a none n).plant = s.plant := fun t a n h =>
        ⟨(t.near_raise a none n).change.trans h.1, (t.near_raise a none n).plant.trans h.2⟩
      have hbase : cleared.change = s.change ∧ cleared.plant = s.plant := ⟨hnear.change, hnear.plant⟩
      unfold dipped
      split
      · exact raised _ _ _ hbase
      · split
        · exact raised _ _ _ hbase
        · exact hbase
    have hweighed : dipped.takeWeight weight = weighed := by
      unfold State.takeWeight weighed
      rw [hsame.1, hsame.2]
      cases s.change with
      | clear => rfl
      | lowering => rfl
      | atLow => rfl
      | swap =>
        dsimp only
        rw [State.releaseChange_eq]
        rfl
    rw [hexec, hfresh hl hs, if_pos hv, hdipped, hweighed]

end Sys2Proof.Machine

/-! What the hold reasons of a running strand stand on, and the events that leave it alone (R84, R96, R107, R112, R122). -/

namespace Sys2Proof.Machine

/-! ## The grounds of a strand's hold reasons -/

/-- What the conditions of SENSOR, BEAT, CHANGE and DIP read of a strand: the reasons themselves, whether both inputs are VALID,
the enrolled flag and the pending re-seed. -/
structure Grounds where
  valid : Bool
  sensor : Bool
  beat : Bool
  change : Bool
  dip : Bool
  enrolled : Bool
  reseed : Bool

def Strand.grounds (x : Strand) : Grounds where
  valid := x.input.bothValid
  sensor := x.ctx.hold.sensor
  beat := x.ctx.hold.beat
  change := x.ctx.hold.change
  dip := x.ctx.hold.dip
  enrolled := x.ctx.enrolled
  reseed := x.ctx.reseed

/-- Each reason is there exactly while its condition holds, under the fail flag, the coordinator state and the dip state. -/
def Grounds.justified (fail : Bool) (change : ChangeState) (dip : DipState) (g : Grounds) : Prop :=
  (g.sensor = true ↔ g.valid = false) ∧ (g.beat = true ↔ fail = true)
    ∧ (g.change = true ↔ g.enrolled = true ∧ (change = .atLow ∨ change = .swap))
    ∧ (g.dip = true ↔ dip = .dipped) ∧ (g.reseed = true ↔ g.dip = true)

/-- A reason added or removed; LEVEL and COMMAND are no part of the grounds. -/
def Grounds.put (g : Grounds) (b : Bool) : Reason → Grounds
  | .sensor => { g with sensor := b }
  | .beat => { g with beat := b }
  | .change => { g with change := b }
  | .dip => { g with dip := b }
  | .level | .command => g

theorem State.holdsSound_iff {s : State} :
    s.holdsSound ↔ ∀ k, (s.ctx k).running = true → (s.strand k).grounds.justified s.fail s.change s.dip := Iff.rfl

section
variable {x : Strand}

theorem Strand.grounds_addReason (r : Reason) (h : x.ctx.running = true) :
    { x with ctx := x.ctx.addReason r }.grounds = x.grounds.put true r := by
  rw [Context.addReason, if_pos h]
  cases r <;> rfl

/-- A reason that leaves a sound run: in RAMPING no reason is held (R15). -/
theorem Strand.grounds_removeReason (r : Reason) (h : x.ctx.running = true) (hs : x.ctx.sound) :
    { x with ctx := x.ctx.removeReason r }.grounds = x.grounds.put false r := by
  by_cases hh : x.ctx.state = .holding
  · rw [Context.removeReason, if_pos hh]
    cases r <;> rfl
  · have hempty : x.ctx.hold = {} := by
      have hheld := ((Context.sound_running h).mp hs).2
      by_contra hne
      exact hh (hheld.mpr hne)
    rw [Context.removeReason, if_neg hh]
    cases r <;> simp [Strand.grounds, Grounds.put, hempty]

end

section
variable {fail : Bool} {change : ChangeState} {dip : DipState} {g : Grounds}

/-- Another coordinator state justifies the same grounds where it asks the same of an enrolled strand. -/
theorem Grounds.justified.withChange {next : ChangeState} (h : g.justified fail change dip)
    (hc : g.enrolled = true → ((change = .atLow ∨ change = .swap) ↔ (next = .atLow ∨ next = .swap))) :
    g.justified fail next dip := by
  obtain ⟨hsensor, hbeat, hchange, hdip, hreseed⟩ := h
  exact ⟨hsensor, hbeat, hchange.trans (and_congr_right hc), hdip, hreseed⟩

theorem Grounds.justified.withBeat (h : g.justified fail change dip) (b : Bool) :
    (g.put b .beat).justified b change dip := by
  obtain ⟨hsensor, -, hchange, hdip, hreseed⟩ := h
  exact ⟨hsensor, Iff.rfl, hchange, hdip, hreseed⟩

/-- An enrolled strand takes CHANGE as the coordinator leaves LOWERING for AT_LOW (R96). -/
theorem Grounds.justified.atLow (h : g.justified fail change dip) (he : g.enrolled = true) :
    (g.put true .change).justified fail .atLow dip := by
  obtain ⟨hsensor, hbeat, -, hdip, hreseed⟩ := h
  exact ⟨hsensor, hbeat, iff_of_true rfl ⟨he, .inl rfl⟩, hdip, hreseed⟩

/-- A strand released from the enrolled set (R100, R101). -/
theorem Grounds.justified.released (h : g.justified fail change dip) (next : ChangeState) :
    { g.put false .change with enrolled := false }.justified fail next dip := by
  obtain ⟨hsensor, hbeat, -, hdip, hreseed⟩ := h
  exact ⟨hsensor, hbeat, iff_of_false Bool.false_ne_true fun h => Bool.false_ne_true h.1, hdip, hreseed⟩

theorem Grounds.justified.dipBegun (h : g.justified fail change dip) :
    { g.put true .dip with reseed := true }.justified fail change .dipped := by
  obtain ⟨hsensor, hbeat, hchange, -, -⟩ := h
  exact ⟨hsensor, hbeat, hchange, iff_of_true rfl rfl, iff_of_true rfl rfl⟩

theorem Grounds.justified.dipEnded (h : g.justified fail change dip) :
    { g.put false .dip with reseed := false }.justified fail change .normal := by
  obtain ⟨hsensor, hbeat, hchange, -, -⟩ := h
  exact ⟨hsensor, hbeat, hchange, iff_of_false Bool.false_ne_true nofun,
    iff_of_false Bool.false_ne_true Bool.false_ne_true⟩

/-- A strand without a pending re-seed has nothing to lose at dip end. -/
theorem Grounds.justified.undipped (h : g.justified fail change dip) (hr : g.reseed = false) :
    { g.put false .dip with reseed := false } = g := by
  obtain ⟨-, -, -, -, hreseed⟩ := h
  have hdip : g.dip = false := by
    by_contra hd
    rw [Bool.not_eq_false, ← hreseed, hr] at hd
    cases hd
  have hsame : { g.put g.dip .dip with reseed := g.reseed } = g := rfl
  rwa [hdip, hr] at hsame

end

/-! ## Events that leave the grounds alone -/

/-- A strand that runs after an event ran before it, on the same grounds. -/
def Strand.steady (x y : Strand) : Prop := y.ctx.running = true → x.ctx.running = true ∧ y.grounds = x.grounds

section
variable {x y z : Strand}

theorem Strand.steady.refl (x : Strand) : x.steady x := fun h => ⟨h, rfl⟩

theorem Strand.steady.trans (h : x.steady y) (g : y.steady z) : x.steady z := fun hz => by
  obtain ⟨hy, hgz⟩ := g hz
  obtain ⟨hx, hgy⟩ := h hy
  exact ⟨hx, hgz.trans hgy⟩

theorem Strand.steady_of_idle (h : y.ctx.running = false) : x.steady y := fun hy => by rw [h] at hy; cases hy

theorem Strand.steady_of_same (hs : y.ctx.state = x.ctx.state) (hg : y.grounds = x.grounds) : x.steady y := fun hy =>
  ⟨(Context.running_congr hs).symm.trans hy, hg⟩

/-- LEVEL and COMMAND come and go without the grounds (R19, R20, R85). -/
theorem Strand.steady_addReason {r : Reason} (h : ∀ g : Grounds, g.put true r = g) :
    x.steady { x with ctx := x.ctx.addReason r } := fun hy => by
  have hx : x.ctx.running = true := (Context.addReason_running r x.ctx).symm.trans hy
  exact ⟨hx, (Strand.grounds_addReason r hx).trans (h _)⟩

theorem Strand.steady_removeReason {r : Reason} (h : ∀ g : Grounds, g.put false r = g) (hs : x.ctx.sound) :
    x.steady { x with ctx := x.ctx.removeReason r } := fun hy => by
  have hx : x.ctx.running = true := (Context.removeReason_running r x.ctx).symm.trans hy
  exact ⟨hx, (Strand.grounds_removeReason r hx hs).trans (h _)⟩

end

/-- From s to t the conditions of every hold reason stay as they were, and no run begins. -/
structure State.calm (s t : State) : Prop where
  fail : t.fail = s.fail
  change : t.change = s.change
  dip : t.dip = s.dip
  strands : ∀ k, (s.strand k).steady (t.strand k)

section
variable {s t u : State}

theorem State.calm.refl (s : State) : s.calm s := ⟨rfl, rfl, rfl, fun _ => .refl _⟩

theorem State.calm.trans (h : s.calm t) (g : t.calm u) : s.calm u :=
  ⟨g.fail.trans h.fail, g.change.trans h.change, g.dip.trans h.dip, fun k => (h.strands k).trans (g.strands k)⟩

theorem State.calm_of_near (h : s.near t) (hs : ∀ k, (s.strand k).steady (t.strand k)) : s.calm t :=
  ⟨h.fail, h.change, h.dip, hs⟩

/-- An event beside the strands and the units whose state the reasons follow. -/
theorem State.calm_of_same (hs : t.strands = s.strands) (hf : t.fail = s.fail) (hc : t.change = s.change) (hd : t.dip = s.dip) :
    s.calm t :=
  ⟨hf, hc, hd, fun k => State.strand_of_strands hs k ▸ .refl _⟩

theorem State.raise_calm (s : State) (a : AlarmKind) (o : Option StrandId) (n : Nat) : s.calm (s.raise a o n) :=
  State.calm_of_near (s.near_raise a o n) fun k => by rw [State.strand_raise]; exact .refl _

theorem State.calm_upd {k : StrandId} {f : Strand → Strand} (h : (s.strand k).steady (f (s.strand k))) : s.calm (s.upd k f) :=
  State.calm_of_near (s.near_upd k f) fun j => by
    rw [State.strand_upd]
    split
    · next hj => rw [hj]; exact h
    · exact .refl _

theorem forStrands_calm {l : List StrandId} {f : StrandId → State → State} (h : ∀ k t, State.calm t (f k t)) (s : State) :
    s.calm (forStrands l f s) :=
  forStrands_induct (s.calm ·) l f (fun k _ _ ht => ht.trans (h k _)) s (.refl s)

theorem State.calm.holdsSound (h : s.calm t) (hs : s.holdsSound) : t.holdsSound := fun k hk => by
  obtain ⟨hx, hg⟩ := h.strands k hk
  have hj := State.holdsSound_iff.mp hs k hx
  rw [← hg, ← h.fail, ← h.change, ← h.dip] at hj
  exact hj

/-! ## Sound records and justified reasons together -/

/-- Every strand's records are sound, and the reasons of every run follow their conditions. -/
def State.heldSound (s : State) : Prop := s.strandsSound ∧ s.holdsSound

theorem State.moves.strandsSound (h : s.moves t) (hs : s.strandsSound) : t.strandsSound := fun k => (h.strands k).sound (hs k)

theorem State.moves.running (h : s.moves t) {k : StrandId} (hk : (t.ctx k).running = true) : (s.ctx k).running = true :=
  ((h.strands k).keepsCommand hk).1

theorem State.calm.heldSound (h : s.calm t) (hm : s.moves t) (hs : s.heldSound) : t.heldSound :=
  ⟨hm.strandsSound hs.1, h.holdsSound hs.2⟩

theorem State.raise_heldSound (a : AlarmKind) (o : Option StrandId) (n : Nat) (hs : s.heldSound) : (s.raise a o n).heldSound :=
  (State.raise_calm s a o n).heldSound ((State.moves.refl s).raise a o n) hs

/-- An event that begins no run and takes justified grounds to justified grounds. -/
theorem State.holdsSound_of (hs : s.holdsSound) (h : ∀ k, (t.ctx k).running = true → (s.ctx k).running = true
      ∧ ((s.strand k).grounds.justified s.fail s.change s.dip → (t.strand k).grounds.justified t.fail t.change t.dip)) :
    t.holdsSound := fun k hk => by
  obtain ⟨hx, hj⟩ := h k hk
  exact hj (hs k hx)

end

end Sys2Proof.Machine

/-! The beat of a block, against the conditions of the hold reasons (R38 to R45, R76, R77, R88, R96, R99, R108, R155). -/

namespace Sys2Proof.Machine

section
variable {s t : State}

/-! ## Trips -/

/-- A trip cause ends a run or leaves the strand as it was (R22 to R24). -/
theorem Strand.afterTrip_steady (why : Cause) (g : Grant) (x : Strand) : x.steady (x.afterTrip why g) := by
  unfold Strand.afterTrip
  split
  · exact Strand.steady_of_idle rfl
  · split
    · exact Strand.steady_of_idle rfl
    · exact .refl x

theorem State.tripOne_calm (why : Cause) (k : StrandId) (s : State) : s.calm (s.tripOne why k) := by
  obtain ⟨hnear, hstrand⟩ := State.tripOne_near why k s
  refine State.calm_of_near hnear fun j => ?_
  rw [hstrand]
  split
  · next hj => rw [hj]; exact Strand.afterTrip_steady _ _ _
  · exact .refl _

theorem State.trips_calm (why : Cause) (ks : List StrandId) (s : State) : s.calm (forStrands ks (State.tripOne why) s) :=
  forStrands_calm (State.tripOne_calm why) s

/-- A coordinator state that holds no reason, of a state in which no run holds CHANGE for it. -/
theorem State.moveChange_heldSound {c : ChangeState} (hs : s.heldSound)
    (hc : ∀ k, (s.ctx k).enrolled = true →
      ((s.change = .atLow ∨ s.change = .swap) ↔ (c = .atLow ∨ c = .swap))) :
    (s.moveChange c).heldSound := by
  have hcalm : State.calm { s with change := c } (s.moveChange c) := State.raise_calm _ _ _ _
  have hm : s.moves (s.moveChange c) := (State.moves.refl s).moveChange c
  exact ⟨hm.strandsSound hs.1, hcalm.holdsSound (State.holdsSound_of hs.2 fun k hk => ⟨hk, fun hj => hj.withChange (hc k)⟩)⟩

/-- A sound strand without a low mark is not enrolled (R91). -/
theorem State.unenrolled_of_mark (hs : s.strandsSound) {k : StrandId} (h : (s.strand k).mark = none) :
    (s.ctx k).enrolled = false := by
  obtain ⟨-, -, hmark, -⟩ := hs k
  rw [h] at hmark
  by_contra he
  rw [Bool.not_eq_false] at he
  exact absurd (hmark.mpr he) Bool.false_ne_true

/-- With the enrolled set empty any coordinator state justifies what is held (R96, R100). -/
theorem State.moveChange_emptied (hs : s.heldSound) (h : ∀ k, (s.strand k).mark = none) (c : ChangeState) :
    (s.moveChange c).heldSound :=
  State.moveChange_heldSound hs fun k he => by
    rw [State.unenrolled_of_mark hs.1 (h k)] at he
    cases he

theorem State.settleChange_heldSound (hs : s.heldSound) : s.settleChange.heldSound := by
  unfold State.settleChange
  split
  · next h => exact State.moveChange_emptied hs ((State.anyEnrolled_eq_false s).mp (by simpa using h.2)) .clear
  · exact hs

theorem State.trips_heldSound (why : Cause) (ks : List StrandId) (hs : s.heldSound) :
    (forStrands ks (State.tripOne why) s).heldSound :=
  (State.trips_calm why ks s).heldSound (State.trips_moves why ks s) hs

theorem State.tripAll_heldSound (why : Cause) (ks : List StrandId) (hs : s.heldSound) : (s.tripAll why ks).heldSound :=
  State.settleChange_heldSound (State.trips_heldSound why ks hs)

/-! ## The follow checks -/

theorem State.countFollow_calm (acc : Nat) (k : StrandId) (s : State) : s.calm (s.countFollow acc k) := by
  unfold State.countFollow
  split
  · exact State.calm_upd (Strand.steady_of_same rfl rfl)
  · exact .refl s

theorem State.followBeat_heldSound (i : Nat) (acc : StrandId → Nat) (hs : s.heldSound) : (s.followBeat i acc).heldSound :=
  State.tripAll_heldSound .follow _ ((forStrands_calm (fun k => State.countFollow_calm (acc k) k) s).heldSound
    (forStrands_moves _ _ s fun k _ t _ => State.countFollow_moves (acc k) k t) hs)

/-! ## The admission pass -/

theorem State.enterSegment_calm (k : StrandId) (n : Fin 8) (s : State) : s.calm (s.enterSegment k n) := by
  unfold State.enterSegment
  split
  · exact .refl s
  · have entered : ∀ g, s.calm (s.updCtx k fun c =>
        s.loadSegment g { c with segment := some (.seg n), dwell := 0, confirmSeen := false }) :=
      fun g => State.calm_upd (Strand.steady_of_same rfl rfl)
    dsimp only
    split
    · exact (entered _).trans (State.calm_upd (Strand.steady_of_same rfl rfl))
    · exact entered _

theorem State.completionTest_calm (k : StrandId) (s : State) : s.calm (s.completionTest k) := by
  rcases State.completionTest_cases k s with
    ⟨h, -⟩ | ⟨p, n, -, -, -, -, -, ⟨n', -, h⟩ | ⟨-, -, h⟩ | ⟨-, -, -, h⟩ | ⟨-, -, -, h⟩⟩ <;> rw [h]
  · exact .refl s
  · exact State.enterSegment_calm k n' s
  · exact (State.calm_upd (Strand.steady_of_same rfl rfl)).trans (State.raise_calm _ _ _ _)
  · exact State.calm_upd (Strand.steady_of_idle rfl)
  · exact (State.calm_upd (Strand.steady_of_idle rfl)).trans (State.raise_calm _ _ _ _)

/-- The results of a pass: a run keeps its reasons through its ramp step (R38, R65). -/
theorem State.passResults_calm (i : Nat) (s : State) : s.calm (s.passResults i) := by
  have hnear := State.passResults_near i s
  refine ⟨hnear.fail, hnear.change, hnear.dip, fun k hk => ?_⟩
  have hrun := (State.passResults_moves i s).running hk
  obtain ⟨a, starved, g, -, hstrand⟩ := State.passResults_steps i hrun
  refine ⟨hrun, ?_⟩
  rw [hstrand]
  unfold Strand.steppedTo Strand.regranted
  split <;> rfl

theorem State.movePointer_calm (won : List StrandId) (s : State) : s.calm (s.movePointer won) := by
  unfold State.movePointer
  split
  · exact State.calm_of_same rfl rfl rfl rfl
  · exact .refl s

theorem State.countDeficit_calm (s : State) : s.calm s.countDeficit := by
  have counted : ∀ n, s.calm { s with deficit := n } := fun n => State.calm_of_same rfl rfl rfl rfl
  unfold State.countDeficit
  split
  · dsimp only
    split
    · exact (counted _).trans (State.raise_calm _ _ _ _)
    · exact counted _
  · exact counted _

theorem State.admissionPass_calm (i : Nat) (s : State) : s.calm (s.admissionPass i) := by
  have hcompleted : s.calm (s.passCompleted i) :=
    (State.passResults_calm i s).trans (forStrands_calm State.completionTest_calm _)
  have hstarved : ∀ l t, State.calm t (t.raiseStarved l) := fun l t =>
    State.calm_of_near (State.raiseStarved_near l t).1 fun k => (State.raiseStarved_near l t).2 k ▸ .refl _
  rw [State.admissionPass_eq]
  exact ((hcompleted.trans (State.movePointer_calm _ _)).trans (hstarved _ _)).trans (State.countDeficit_calm _)

/-! ## The Input Monitor -/

section
variable {before after : StrandInput}

theorem StrandInput.bothValid_lost
    (h : (before.lvl.loss = .valid ∧ after.lvl.loss ≠ .valid) ∨ (before.fb.loss = .valid ∧ after.fb.loss ≠ .valid)) :
    after.bothValid = false := by
  simp only [StrandInput.bothValid, decide_eq_false_iff_not]
  tauto

theorem StrandInput.bothValid_kept
    (h : ¬ ((before.lvl.loss = .valid ∧ after.lvl.loss ≠ .valid) ∨ (before.fb.loss = .valid ∧ after.fb.loss ≠ .valid)))
    (hc : ¬ (after.bothValid = true ∧ ¬ before.bothValid = true)) : after.bothValid = before.bothValid := by
  rw [Bool.eq_iff_iff]
  simp only [StrandInput.bothValid, decide_eq_true_eq] at hc ⊢
  tauto

end

/-- What a change of the input record does to a context, with the level excess count that it may zero (R84, R86). -/
theorem Context.sensorChange_cases (before after : StrandInput) (c : Context) :
    ∃ n, c.sensorChange before after =
      if (before.lvl.loss = .valid ∧ after.lvl.loss ≠ .valid) ∨ (before.fb.loss = .valid ∧ after.fb.loss ≠ .valid) then
        { c with levelExcess := n }.addReason .sensor
      else if after.bothValid ∧ ¬ before.bothValid then { c with levelExcess := n }.removeReason .sensor
      else { c with levelExcess := n } := by
  by_cases h : before.lvl.loss = .valid ∧ after.lvl.loss ≠ .valid
  · exact ⟨0, by rw [Context.sensorChange, if_pos h]⟩
  · exact ⟨c.levelExcess, by rw [Context.sensorChange, if_neg h]⟩

/-- What a change of the input record does: the records that only it and the level excess count differ in, and then SENSOR
(R84, R86). -/
theorem Strand.sensed_cases (after : StrandInput) {x : Strand} (hr : x.ctx.running = true) (hx : x.ctx.sound) :
    ∃ y : Strand, y.ctx.running = true ∧ y.ctx.sound ∧ y.grounds = { x.grounds with valid := after.bothValid }
      ∧ x.sensed after =
        if (x.input.lvl.loss = .valid ∧ after.lvl.loss ≠ .valid) ∨ (x.input.fb.loss = .valid ∧ after.fb.loss ≠ .valid) then
          { y with ctx := y.ctx.addReason .sensor }
        else if after.bothValid ∧ ¬ x.input.bothValid then { y with ctx := y.ctx.removeReason .sensor }
        else y := by
  obtain ⟨n, hn⟩ := x.ctx.sensorChange_cases x.input after
  refine ⟨{ x with input := after, ctx := { x.ctx with levelExcess := n } }, hr, Context.sound_edit hx hr rfl rfl id, rfl, ?_⟩
  rw [Strand.sensed, hn]
  split_ifs <;> rfl

/-- A change of the input record takes SENSOR with it: an input left VALID, both became VALID, or neither (R84). -/
theorem Strand.sensed_justified {x : Strand} {after : StrandInput} {fail : Bool} {change : ChangeState} {dip : DipState}
    (hr : x.ctx.running = true) (hx : x.ctx.sound) (h : x.grounds.justified fail change dip) :
    (x.sensed after).grounds.justified fail change dip := by
  obtain ⟨hsensor, hrest⟩ := h
  obtain ⟨y, hyr, hys, hy, hsensed⟩ := Strand.sensed_cases after hr hx
  rw [hsensed]
  split
  · next hlost =>
    rw [Strand.grounds_addReason .sensor hyr, hy]
    exact ⟨iff_of_true rfl (StrandInput.bothValid_lost hlost), hrest⟩
  · next hkept =>
    split
    · next hclears =>
      rw [Strand.grounds_removeReason .sensor hyr hys, hy]
      exact ⟨iff_of_false Bool.false_ne_true fun hv => absurd (hclears.1.symm.trans hv) (by decide), hrest⟩
    · next hstays =>
      rw [hy, StrandInput.bothValid_kept hkept hstays]
      exact ⟨hsensor, hrest⟩

theorem State.raiseLoss_calm (s : State) (o : Option StrandId) (n : Nat) (a b : LossState) : s.calm (s.raiseLoss o n a b) := by
  rcases State.raiseLoss_cases s o n a b with e | ⟨_, _, e⟩ <;> rw [e]
  · exact .refl s
  · exact State.raise_calm _ _ _ _

theorem State.sense_heldSound (k : StrandId) (after : StrandInput) (hs : s.heldSound) :
    ((s.setInput k after).updCtx k (Context.sensorChange (s.strand k).input after)).heldSound := by
  refine ⟨(State.sense_moves k _ after s).strandsSound hs.1, ?_⟩
  rw [State.sense_eq]
  refine ((State.raiseLoss_calm _ _ _ _ _).trans (State.raiseLoss_calm _ _ _ _ _)).holdsSound
    (State.holdsSound_of hs.2 fun j hj => ?_)
  rw [State.ctx, State.strand_upd] at hj
  rw [State.strand_upd]
  split at hj
  · next hk =>
    rw [hk, if_pos rfl]
    have hrun : (s.ctx k).running = true := (Context.sensorChange_run _ _ _).1.symm.trans hj
    exact ⟨hrun, Strand.sensed_justified hrun (hs.1 k).1⟩
  · next hk =>
    rw [if_neg hk]
    exact ⟨hj, id⟩

theorem State.ageStrand_heldSound (k : StrandId) (hs : s.heldSound) : (s.ageStrand k).heldSound :=
  State.sense_heldSound k _ hs

theorem State.setPlantInput_calm (after : PlantInput) (s : State) : s.calm (s.setPlantInput after) := by
  have hnear : State.near { s with plantIn := after } (s.setPlantInput after) := State.raiseLoss_near _ _ _ _ _
  exact ⟨hnear.fail, hnear.change, hnear.dip, fun k => State.setPlantInput_strands s after k ▸ .refl _⟩

theorem State.inputBeat_heldSound (hs : s.heldSound) : s.inputBeat.heldSound :=
  (State.setPlantInput_calm _ _).heldSound (State.agePlant_moves _ _)
    (forStrands_induct State.heldSound _ _ (fun k _ _ ht => State.ageStrand_heldSound k ht) s hs)

/-! ## The Change Coordinator and the Dip Monitor -/

section
variable {x : Strand} {c : Context}

theorem State.grounds_reloaded (s : State) (x : Strand) (c : Context) :
    { x with ctx := s.reloaded c }.grounds = { x with ctx := c }.grounds := by
  unfold State.reloaded
  split <;> rfl

theorem State.reloaded_running (s : State) (c : Context) : (s.reloaded c).running = c.running := by
  unfold State.reloaded
  split <;> rfl

theorem State.reloaded_sound (s : State) (hr : c.running = true) (hc : c.sound) : (s.reloaded c).sound := by
  unfold State.reloaded
  split
  · exact Context.sound_edit hc hr rfl rfl fun ⟨hcause, hpending, hp, hn, _⟩ => ⟨hcause, hpending, hp, hn, rfl, rfl⟩
  · exact Context.sound_edit hc hr rfl rfl fun ⟨hcause, hpending, hp, _⟩ => ⟨hcause, hpending, hp, rfl, rfl, rfl⟩
  · exact hc

theorem Strand.grounds_released (hr : x.ctx.running = true) (hx : x.ctx.sound) :
    x.released.grounds = { x.grounds.put false .change with enrolled := false } := by
  rw [← Strand.grounds_removeReason .change hr hx]
  rfl

end

/-- The coordinator moves, and every strand of the enrolled set changes with it (R96, R100, R101). -/
theorem State.enrolled_heldSound {f : Strand → Strand} {c : ChangeState} {n : Nat} (hs : s.heldSound) (hm : s.moves t)
    (ht : t = { s.mapStrands (fun _ x => if x.mark.isSome then f x else x) with change := c }.raise .change none n)
    (hf : ∀ x : Strand, x.ctx.running = true → x.ctx.sound → x.ctx.enrolled = true →
      x.grounds.justified s.fail s.change s.dip → (f x).grounds.justified s.fail c s.dip) : t.heldSound := by
  refine ⟨hm.strandsSound hs.1, State.holdsSound_of hs.2 fun k hk => ⟨hm.running hk, fun hj => ?_⟩⟩
  have hrun : (s.ctx k).running = true := hm.running hk
  obtain ⟨hsound, -, hmark, -⟩ := hs.1 k
  have hnear : State.near { s.mapStrands (fun _ x => if x.mark.isSome then f x else x) with change := c } t :=
    ht ▸ State.near_raise _ _ _ _
  have hstrand : t.strand k = if (s.strand k).mark.isSome then f (s.strand k) else s.strand k := by
    rw [ht, State.strand_raise]
    exact State.mapStrands_strand s _ k
  rw [hstrand, hnear.fail, hnear.change, hnear.dip]
  split
  · next hsome => exact hf _ hrun hsound (hmark.mp hsome) hj
  · next hnone => exact hj.withChange fun he => absurd (hmark.mpr he) hnone

theorem State.toAtLow_heldSound (hs : s.heldSound) : s.toAtLow.heldSound :=
  State.enrolled_heldSound hs (State.toAtLow_moves s) (State.toAtLow_eq s.near_refl) fun x hr _ he hj => by
    rw [State.grounds_reloaded, Strand.grounds_addReason .change hr]
    exact hj.atLow he

theorem State.releaseChange_heldSound (hs : s.heldSound) : s.releaseChange.heldSound :=
  State.enrolled_heldSound hs (State.releaseChange_moves s) (State.releaseChange_eq s) fun x hr hx _ hj => by
    rw [Strand.grounds_released hr hx]
    exact hj.released .clear

theorem State.cancelLowering_heldSound (hs : s.heldSound) : s.cancelLowering.heldSound :=
  State.enrolled_heldSound hs (State.cancelLowering_moves s) (State.cancelLowering_eq s) fun x hr hx _ hj => by
    rw [Strand.grounds_released ((State.reloaded_running s _).trans hr) (State.reloaded_sound s hr hx), State.grounds_reloaded]
    exact hj.released .clear

theorem State.expireLowering_heldSound (hs : s.heldSound) : s.expireLowering.heldSound := by
  have htrips := State.trips_heldSound .changeLate s.laggards hs
  rw [State.expireLowering_eq rfl]
  split
  · next h => exact State.moveChange_emptied htrips h .clear
  · exact State.toAtLow_heldSound htrips

/-- A trip of every enrolled strand empties the enrolled set (R22, R99). -/
theorem State.trips_enrolledSet (why : Cause) (hs : s.strandsSound) (k : StrandId) :
    ((forStrands s.enrolledSet (State.tripOne why) s).strand k).mark = none := by
  have hmem : k ∈ s.enrolledSet ↔ (s.strand k).mark.isSome = true := by
    simp [State.enrolledSet, List.mem_filter, mem_strandIds]
  rw [(State.trips_near why s.enrolledSet (strandIds_nodup.filter _) s).2 k]
  split
  · next hk =>
    obtain ⟨-, -, hmark, hreal, -⟩ := hs k
    rw [Strand.afterTrip, if_pos (.inl (hreal (hmark.mp (hmem.mp hk))))]
    rfl
  · next hk => exact Option.not_isSome_iff_eq_none.mp fun h => hk (hmem.mpr h)

theorem State.expireSwap_heldSound (hs : s.heldSound) : s.expireSwap.heldSound :=
  State.moveChange_emptied (State.trips_heldSound .swapTimeout s.enrolledSet hs)
    (State.trips_enrolledSet .swapTimeout hs.1) .clear

theorem State.changeBeat_heldSound (hs : s.heldSound) : s.changeBeat.heldSound := by
  unfold State.changeBeat
  split
  · have hcount : s.countLowering.heldSound := hs
    split
    · exact State.toAtLow_heldSound hs
    · split
      · exact State.expireLowering_heldSound hcount
      · exact hcount
  · have hcount : s.countSwap.heldSound := hs
    split
    · exact State.expireSwap_heldSound hcount
    · exact hcount
  · exact hs
  · exact hs

theorem State.dipBeat_heldSound (hs : s.heldSound) : s.dipBeat.heldSound := by
  have hcount : s.countDip.heldSound := hs
  unfold State.dipBeat
  split
  · exact hs
  · split
    · exact State.tripAll_heldSound .dipLong _ hcount
    · exact hcount

/-! ## The Line Interface and the whole beat -/

theorem State.originStep_calm (k : StrandId) (s : State) : s.calm (s.originStep k) := by
  have hcount : s.calm (s.upd k Strand.countSilence) := State.calm_upd (by
    unfold Strand.countSilence
    split
    · exact Strand.steady_of_same rfl rfl
    · exact .refl _)
  have hsend : ∀ (u : State) f, u.calm (u.send f) := fun u f => State.calm_of_same rfl rfl rfl rfl
  have hraise : s.calm (if (s.strand k).silence + 1 = 2 then (s.upd k Strand.countSilence).raise .originate (some k) 0
      else s.upd k Strand.countSilence) := by
    split
    · exact hcount.trans (State.raise_calm _ _ _ _)
    · exact hcount
  unfold State.originStep
  split
  · dsimp only
    split
    · exact hraise.trans (hsend _ _)
    · exact hraise
  · exact .refl s

theorem State.lineBeat_calm (s : State) : s.calm s.lineBeat := by
  have hsend : s.countRetired.calm s.countRetired.sendBeat := by
    unfold State.sendBeat
    split
    · exact State.calm_of_same rfl rfl rfl rfl
    · exact .refl _
  have hretired : s.calm s.countRetired := State.calm_of_same rfl rfl rfl rfl
  exact (hretired.trans hsend).trans (forStrands_calm State.originStep_calm _)

theorem State.blockBeat_heldSound (i : Nat) (acc : StrandId → Nat) (b : Block) (hs : s.heldSound) :
    (s.blockBeat i acc b).heldSound := by
  cases b with
  | sequencer => exact State.followBeat_heldSound i acc hs
  | arbiter => exact (State.admissionPass_calm i s).heldSound (State.admissionPass_moves i s) hs
  | inputMonitor => exact State.inputBeat_heldSound hs
  | changeCoordinator => exact State.changeBeat_heldSound hs
  | dipMonitor => exact State.dipBeat_heldSound hs
  | lineInterface => exact (State.lineBeat_calm s).heldSound (State.lineBeat_moves s) hs

/-- A delivered beat, in any order of the blocks (R119). -/
theorem State.deliverBeat_heldSound (hs : s.heldSound) : s.deliverBeat.heldSound := by
  have blocks : ∀ (l : List Block) (u : State) i acc, u.heldSound → (l.foldl (State.blockBeat i acc) u).heldSound := fun l => by
    induction l with
    | nil => exact fun _ _ _ h => h
    | cons b l ih => exact fun u i acc h => ih _ i acc (State.blockBeat_heldSound i acc b h)
  exact blocks _ { s with beats := s.beats + 1, fresh := s.fresh + 1 } _ _ hs

end

end Sys2Proof.Machine

/-! Samples, the dip, the beat unit and claims, against the conditions of the hold reasons (R75, R84 to R89, R98, R100, R106 to
R112, R117 to R125, R139 to R142). -/

namespace Sys2Proof.Machine

section
variable {s t : State}

/-! ## A sensor sample -/

theorem State.takeConfirm_calm (k : StrandId) (flag : Bool) (s : State) : s.calm (s.takeConfirm k flag) := by
  unfold State.takeConfirm
  split
  · split
    · exact State.calm_upd (Strand.steady_of_same rfl rfl)
    · exact .refl s
  · exact .refl s

/-- The level gate adds and removes LEVEL alone, and counts (R85, R86). -/
theorem Strand.gated_steady (p : Profile) (n : Nat) {x : Strand} (hx : x.ctx.sound) :
    x.steady { x with ctx := (x.ctx.gateLevel p n).countExcess p n } := by
  have gated : x.steady { x with ctx := x.ctx.gateLevel p n } := by
    unfold Context.gateLevel
    split
    · exact Strand.steady_addReason fun _ => rfl
    · split
      · exact Strand.steady_removeReason (fun _ => rfl) hx
      · exact .refl x
  exact gated.trans (Strand.steady_of_same rfl rfl)

theorem State.levelGate_heldSound (k : StrandId) (level : Int) (hs : s.heldSound) : (s.levelGate k level).heldSound := by
  unfold State.levelGate
  split
  · next h =>
    have hgated : (s.updCtx k fun c =>
        (c.gateLevel (s.profileOf (s.ctx k)) level.natAbs).countExcess (s.profileOf (s.ctx k)) level.natAbs).heldSound :=
      State.calm.heldSound (State.calm_upd (Strand.gated_steady _ _ (hs.1 k).1))
        (State.moves_updCtx s k _ (.tail (Strand.gateLevel_moves _ _ _ _) (.note _ _ (by simpa [State.ctx] using h.1) rfl))) hs
    dsimp only
    split
    · exact State.tripAll_heldSound .level [k] hgated
    · exact hgated
  · exact hs

/-- A breakout ends the run of its strand, whatever the sample makes of its inputs (R89). -/
theorem State.breakout_heldSound {k : StrandId} (x : SensorReading) (hs : s.heldSound)
    (h : (s.ctx k).running = true ∨ (s.ctx k).state = .handback) :
    ((s.taken k ((s.strand k).input.take s.plant x) (s.ctx k)).tripOne .breakout k).settled.heldSound := by
  have hmoves : s.moves ((s.taken k ((s.strand k).input.take s.plant x) (s.ctx k)).tripOne .breakout k) := by
    rw [← State.setInput_taken]
    exact (State.setInput_moves k _ s).trans (State.tripOne_moves _ _ _)
  generalize (s.strand k).input.take s.plant x = after at hmoves ⊢
  obtain ⟨hnear, hstrand⟩ := State.tripOne_near .breakout k (s.taken k after (s.ctx k))
  have hcalm : s.calm ((s.taken k after (s.ctx k)).tripOne .breakout k) := by
    refine State.calm_of_near (State.near_trans (State.taken_near _ _ _ _) hnear) fun j => ?_
    rw [hstrand]
    split
    · have hctx : ((s.taken k after (s.ctx k)).strand k).ctx = s.ctx k := State.taken_ctx _ _ _ _
      exact Strand.steady_of_idle (Strand.afterTrip_idle _ _ (by rw [hctx]; exact h)).1
    · next hj => rw [State.taken_strand, if_neg hj]; exact .refl _
  rw [← State.settleChange_eq_settled]
  exact State.settleChange_heldSound (hcalm.heldSound hmoves hs)

theorem State.takeFreshSensor_moves (k : StrandId) (x : SensorReading) (s : State) : s.moves (s.takeFreshSensor k x) :=
  ((State.setInput_moves k _ s).trans (State.takeBreakout_moves k _ _ _)).trans
    ((State.moves_updCtx _ k _ (Strand.sensorChange_moves _ _ _ _)).trans
      ((State.takeConfirm_moves k _ _).trans (State.levelGate_moves k _ _)))

theorem State.takeFreshSensor_heldSound (k : StrandId) (x : SensorReading) (hs : s.heldSound) :
    (s.takeFreshSensor k x).heldSound := by
  by_cases hb : x.breakout = true
  · by_cases hr : (s.ctx k).running = true ∨ (s.ctx k).state = .handback
    · rw [State.takeFreshSensor_breakout hr hb]
      exact State.breakout_heldSound _ hs hr
    · rw [not_or, Bool.not_eq_true] at hr
      have hcalm : ∀ after, s.calm (s.taken k after ((s.ctx k).sampled (s.strand k).input after)) := fun after =>
        State.calm_of_near (State.taken_near _ _ _ _) fun j => by
          rw [State.taken_strand]
          split
          · exact Strand.steady_of_idle ((Context.sampled_running _ _ _).trans hr.1)
          · exact .refl _
      refine State.calm.heldSound ?_ (State.takeFreshSensor_moves k x s) hs
      rw [State.takeFreshSensor_idle hr.1 fun h => absurd h hr.2]
      split
      · exact (hcalm _).trans (State.raise_calm _ _ _ _)
      · exact hcalm _
  · unfold State.takeFreshSensor State.takeBreakout
    simp only [if_neg hb]
    exact State.levelGate_heldSound k _ ((State.takeConfirm_calm k _ _).heldSound (State.takeConfirm_moves k _ _)
      (State.sense_heldSound k _ hs))

theorem State.takeSensor_heldSound (k : StrandId) (x : SensorReading) (hs : s.heldSound) : (s.takeSensor k x).heldSound := by
  unfold State.takeSensor
  split
  · exact hs
  · exact State.takeFreshSensor_heldSound k x hs

/-! ## A plant sample -/

theorem State.setPlantInput_heldSound (after : PlantInput) (hs : s.heldSound) : (s.setPlantInput after).heldSound :=
  ⟨fun k => State.setPlantInput_strands s after k ▸ hs.1 k, (State.setPlantInput_calm after s).holdsSound hs.2⟩

theorem State.dipBegin_heldSound (hs : s.heldSound) : s.dipBegin.heldSound := by
  have hm := State.dipBegin_moves s
  refine ⟨hm.strandsSound hs.1, State.holdsSound_of hs.2 fun k hk => ⟨hm.running hk, fun hj => ?_⟩⟩
  have hr : (s.strand k).ctx.running = true := hm.running hk
  rw [State.dipBegin_eq, State.strand_raise, (State.near_raise _ _ _ _).fail, (State.near_raise _ _ _ _).change,
    (State.near_raise _ _ _ _).dip]
  have hstrand : State.strand { s.mapStrands (fun _ x => if x.ctx.running then { x with ctx := x.ctx.receiveDip } else x) with
      dip := .dipped, dipCount := 0 } k = { s.strand k with ctx := (s.strand k).ctx.receiveDip } :=
    (State.mapStrands_strand s _ k).trans (if_pos hr)
  have hgrounds : { s.strand k with ctx := (s.strand k).ctx.receiveDip }.grounds
      = { (s.strand k).grounds.put true .dip with reseed := true } := by
    rw [← Strand.grounds_addReason .dip hr]
    rfl
  rw [hstrand, hgrounds]
  exact hj.dipBegun

/-- A strand marked for re-seeding runs a profile (R2). -/
theorem State.profile_of_reseed (hs : s.strandsSound) {k : StrandId} (h : (s.ctx k).reseed = true) :
    (s.ctx k).profile.isSome = true := by
  have hsound : (s.ctx k).sound := (hs k).1
  cases hr : (s.ctx k).running with
  | true =>
    obtain ⟨⟨-, -, hp, -⟩, -⟩ := (Context.sound_running hr).mp hsound
    exact hp
  | false =>
    rw [Context.sound_idle hr hsound] at h
    cases h

/-- A re-seed takes DIP and the mark for it, whatever the change override makes of the strand (R103, R112). -/
theorem State.grounds_reseededStrand (s : State) {x : Strand} (hr : x.ctx.running = true) (hx : x.ctx.sound) :
    (s.reseededStrand x).grounds = { x.grounds.put false .dip with reseed := false } := by
  have hplain : (s.reseededStrand x).grounds = { x with ctx := s.reseeded x.input.reseedSpeed x.ctx }.grounds := by
    unfold State.reseededStrand
    dsimp only
    split <;> rfl
  obtain ⟨⟨hcause, hpending, hp, -⟩, -⟩ := (Context.sound_running hr).mp hx
  obtain ⟨p, hp'⟩ := Option.isSome_iff_exists.mp hp
  have removed : ∀ c : Context, c.running = true → c.sound →
      { x with ctx := { c.removeReason .dip with reseed := false } }.grounds
        = { { x with ctx := c }.grounds.put false .dip with reseed := false } := fun c hc hsound =>
    congrArg (fun g : Grounds => { g with reseed := false })
      (Strand.grounds_removeReason (x := { x with ctx := c }) .dip hc hsound)
  rw [hplain]
  unfold State.reseeded
  rw [hp']
  exact removed _ hr (Context.sound_edit hx hr rfl rfl fun _ => ⟨hcause, hpending, rfl, rfl, rfl, rfl⟩)

theorem State.dipEnd_heldSound (hs : s.heldSound) : s.dipEnd.heldSound := by
  have hm := State.dipEnd_moves s
  refine ⟨hm.strandsSound hs.1, State.holdsSound_of hs.2 fun k hk => ⟨hm.running hk, fun hj => ?_⟩⟩
  have hr : (s.strand k).ctx.running = true := hm.running hk
  rw [State.dipEnd_eq fun k => State.profile_of_reseed hs.1, State.strand_raise, (State.near_raise _ _ _ _).fail,
    (State.near_raise _ _ _ _).change, (State.near_raise _ _ _ _).dip]
  have hstrand : State.strand { s.mapStrands (fun _ x => if x.ctx.reseed then s.reseededStrand x else x) with dip := .normal } k
      = if (s.strand k).ctx.reseed then s.reseededStrand (s.strand k) else s.strand k := State.mapStrands_strand s _ k
  have hgrounds : (if (s.strand k).ctx.reseed then s.reseededStrand (s.strand k) else s.strand k).grounds
      = { (s.strand k).grounds.put false .dip with reseed := false } := by
    split
    · exact State.grounds_reseededStrand s hr (hs.1 k).1
    · next hn => exact (hj.undipped (Bool.not_eq_true _ ▸ hn)).symm
  rw [hstrand, hgrounds]
  exact hj.dipEnded

theorem State.takeDipFlag_heldSound (before now : Bool) (hs : s.heldSound) : (s.takeDipFlag before now).heldSound := by
  unfold State.takeDipFlag
  split
  · exact State.dipBegin_heldSound hs
  · exact State.dipEnd_heldSound hs
  · exact hs

theorem State.takeWeight_heldSound (w : Nat) (hs : s.heldSound) : (s.takeWeight w).heldSound := by
  unfold State.takeWeight
  split
  · next hc =>
    split
    · exact State.moveChange_heldSound (s := { s with swapCount := 0 }) hs fun _ _ =>
        iff_of_true (.inl hc) (.inr rfl)
    · exact hs
  · split
    · exact State.releaseChange_heldSound hs
    · exact hs
  · exact hs
  · exact hs

theorem State.takePlant_heldSound (x : PlantReading) (hs : s.heldSound) : (s.takePlant x).heldSound := by
  have hin := State.setPlantInput_heldSound (s.plantIn.take s.plant x) hs
  unfold State.takePlant
  split
  · exact hs
  · dsimp only
    split
    · exact State.takeWeight_heldSound _ (State.takeDipFlag_heldSound _ _ hin)
    · exact hin

/-! ## The beat unit -/

/-- The fail flag moves, and BEAT with it at every strand (R121, R122). -/
theorem State.everywhere_heldSound {u : State} {f : Context → Context} (hs : s.heldSound) (hu : u.strands = s.strands)
    (hc : u.change = s.change) (hd : u.dip = s.dip) (hm : u.moves (forStrands strandIds (fun k s => s.updCtx k f) u))
    (hf : ∀ x : Strand, x.ctx.running = true → x.ctx.sound →
      { x with ctx := f x.ctx }.grounds = x.grounds.put u.fail .beat) :
    (forStrands strandIds (fun k s => s.updCtx k f) u).heldSound := by
  have hstrands : ∀ k, u.strand k = s.strand k := State.strand_of_strands hu
  refine ⟨hm.strandsSound fun k => hstrands k ▸ hs.1 k, State.holdsSound_of hs.2 fun k hk => ?_⟩
  have hr : (s.strand k).ctx.running = true := hstrands k ▸ hm.running hk
  have hmap : forStrands strandIds (fun k s => s.updCtx k f) u = u.mapStrands fun _ x => { x with ctx := f x.ctx } :=
    forStrands_upd_all (fun _ x => { x with ctx := f x.ctx }) u
  refine ⟨hr, fun hj => ?_⟩
  rw [hmap, State.mapStrands_strand, hstrands k, hf _ hr (hs.1 k).1]
  have hb := hj.withBeat u.fail
  rw [← hc, ← hd] at hb
  exact hb

theorem State.clearFail_heldSound (hs : s.heldSound) : s.clearFail.heldSound :=
  State.everywhere_heldSound (u := { s with fail := false }) (f := Context.removeReason .beat) hs rfl rfl rfl
    (State.clearFail_moves s) fun _ => Strand.grounds_removeReason .beat

theorem State.failover_heldSound (src : Source) (hs : s.heldSound) : (s.failover src).heldSound :=
  State.raise_heldSound _ _ _
    (State.everywhere_heldSound (u := { s with current := .localGen, fail := true, switchTo := none })
      (f := Context.addReason .beat) hs rfl rfl rfl (State.addEverywhere_moves .beat _) fun _ hr _ =>
        Strand.grounds_addReason .beat hr)

theorem State.completeSwitch_heldSound (src : Source) (hs : s.heldSound) : (s.completeSwitch src).heldSound := by
  have hbeat : (State.deliverBeat { s with current := src }).heldSound :=
    State.deliverBeat_heldSound (s := { s with current := src }) hs
  unfold State.completeSwitch
  generalize State.deliverBeat { s with current := src } = u at hbeat ⊢
  dsimp only
  split
  · exact State.raise_heldSound _ _ _ (State.clearFail_heldSound (s := { u with switchTo := none }) hbeat)
  · exact State.raise_heldSound (s := { u with switchTo := none }) _ _ _ hbeat

theorem State.setMonitor_heldSound (src : Source) (m : Monitor) (hs : s.heldSound) : (s.setMonitor src m).heldSound := by
  cases src <;> exact hs

theorem State.sourceBeat_heldSound (src : Source) (n : Nat) (hs : s.heldSound) : (s.sourceBeat src n).heldSound := by
  have hm : ((s.setMonitor src ((s.monitor src).beat s.period n)).atTime n).heldSound :=
    State.setMonitor_heldSound src ((s.monitor src).beat s.period n) hs
  unfold State.sourceBeat
  split
  · exact hs
  · dsimp only
    split
    · refine State.deliverBeat_heldSound ?_
      split
      · exact hm
      · exact hm
    · split
      · exact State.completeSwitch_heldSound src hm
      · exact hm

theorem State.localBeat_heldSound (hs : s.heldSound) : s.localBeat.heldSound := by
  unfold State.localBeat
  split
  · exact hs
  · next n _ =>
    have h : (State.atTime { s with localNext := some (n + 1000 * s.period) } n).heldSound := hs
    dsimp only
    split
    · exact State.deliverBeat_heldSound h
    · split
      · exact State.completeSwitch_heldSound _ h
      · exact h

theorem State.sourceSilence_heldSound (src : Source) (hs : s.heldSound) : (s.sourceSilence src).heldSound := by
  have hm : ((s.setMonitor src (s.monitor src).silence).atTime ((s.monitor src).ref + 3000 * s.period)).heldSound :=
    State.setMonitor_heldSound src (s.monitor src).silence hs
  unfold State.sourceSilence
  dsimp only
  split
  · exact hs
  · split
    · exact State.failover_heldSound src hm
    · exact hm

/-! ## Frames of the owned slots -/

theorem State.sensorFrame_heldSound (k : StrandId) (f : Frame) (hs : s.heldSound) : (s.sensorFrame k f).heldSound := by
  have hsend : (s.send f).heldSound := hs
  unfold State.sensorFrame
  split
  · split
    · exact hsend
    · exact State.takeSensor_heldSound k _ hsend
  · exact hsend

theorem State.plantFrame_heldSound (f : Frame) (hs : s.heldSound) : (s.plantFrame f).heldSound := by
  have hsend : (s.send f).heldSound := hs
  unfold State.plantFrame
  split
  · split
    · exact hsend
    · exact State.takePlant_heldSound _ hsend
  · exact hsend

/-- A claim is granted at once: the run ends, and the coordinator follows (R140). -/
theorem State.grantClaim_heldSound (k : StrandId) (hs : s.heldSound) (h : (s.ctx k).realRun = true) :
    (s.grantClaim k).heldSound := by
  have hp : (s.strand k).ctx.state ≠ .passive := fun e => by
    have hr := ((Context.realRun_iff _).mp h).1
    rw [State.ctx, Context.running, e] at hr
    cases hr
  have hmoves : s.moves (s.upd k Strand.enterTracking) := State.moves_upd s k _ (Strand.Move.leave _ _ _ _ hp).moves
  have hcalm : s.calm (s.upd k Strand.enterTracking) := State.calm_upd (Strand.steady_of_idle rfl)
  exact State.raise_heldSound _ _ _ (State.settleChange_heldSound (hcalm.heldSound hmoves hs))

theorem State.takeClaim_heldSound (k : StrandId) (hs : s.heldSound) : (s.takeClaim k).state.heldSound := by
  have hmoves := State.takeClaim_moves k s
  unfold State.takeClaim at hmoves ⊢
  split
  · next h => exact State.grantClaim_heldSound k hs h
  · next h =>
    rw [if_neg h] at hmoves
    refine State.calm.heldSound ?_ hmoves hs
    split
    · have latched : s.calm (s.upd k fun x => { x with blend := x.blend.map fun b => { b with claim := true } }) :=
        State.calm_upd (Strand.steady_of_same rfl rfl)
      exact latched
    · exact State.calm_of_same rfl rfl rfl rfl
    · exact .refl s

theorem State.sendActuator_calm (k : StrandId) (f : Frame) (vs : List Word) (c : Word) (g : Bool) (s : State) :
    s.calm (s.sendActuator k f vs c g) := by
  have hsend : ∀ (u : State) f, u.calm (u.send f) := fun _ _ => State.calm_of_same rfl rfl rfl rfl
  unfold State.sendActuator
  dsimp only
  split
  · exact hsend _ _
  · exact (State.calm_upd (Strand.steady_of_same rfl rfl)).trans (hsend _ _)

theorem State.actuatorFrame_heldSound (k : StrandId) (f : Frame) (hs : s.heldSound) : (s.actuatorFrame k f).heldSound := by
  have hobserved : ∀ o, (s.upd k (Strand.observe o)).heldSound := fun o =>
    have hsteady : (s.strand k).steady ((s.strand k).observe o) := Strand.steady_of_same rfl rfl
    (State.calm_upd hsteady).heldSound (State.moves_upd s k _ (Strand.Move.observe _ o).moves) hs
  have hsent : ∀ {u : State} vs c g, u.heldSound → (u.sendActuator k f vs c g).heldSound := fun vs c g hu =>
    (State.sendActuator_calm k f vs c g _).heldSound (State.sendActuator_moves k f vs c g _) hu
  unfold State.actuatorFrame
  split
  · split
    · exact hs
    · dsimp only
      split
      · exact hsent _ _ _ (State.takeClaim_heldSound k (hobserved _))
      · exact hsent _ _ _ (hobserved _)
  · exact hs

end

end Sys2Proof.Machine

/-! Every request and every command, against the conditions of the hold reasons (R84, R96, R100, R107, R112, R122). -/

namespace Sys2Proof.Machine

section
variable {s t : State} {d : List Word} {k : StrandId} {index : Word} {fields : List Word}

/-! ## Requests that leave the grounds alone -/

theorem trackBody_calm (h : trackBody k s = .ok (t, d)) : s.calm t := by
  unfold trackBody at h
  split at h <;> cases h
  exact State.calm_upd (Strand.steady_of_idle rfl)

theorem untrackBody_calm (h : untrackBody k s = .ok (t, d)) : s.calm t := by
  unfold untrackBody at h
  split at h <;> cases h
  exact State.calm_upd (Strand.steady_of_idle rfl)

theorem holdBody_calm (h : holdBody k s = .ok (t, d)) : s.calm t := by
  unfold holdBody at h
  split at h <;> cases h
  exact State.calm_upd (Strand.steady_addReason fun _ => rfl)

theorem releaseBody_calm (hs : s.strandsSound) (h : releaseBody k s = .ok (t, d)) : s.calm t := by
  unfold releaseBody at h
  split at h <;> cases h
  exact State.calm_upd (Strand.steady_removeReason (fun _ => rfl) (hs k).1)

theorem clearTripBody_calm (h : clearTripBody k s = .ok (t, d)) : s.calm t := by
  unfold clearTripBody at h
  split at h <;> cases h
  exact State.calm_upd (Strand.steady_of_idle rfl)

theorem readContextBody_calm (h : readContextBody k s = .ok (t, d)) : s.calm t := by
  cases h
  exact .refl s

theorem coolPinBody_calm {w : Word} (h : coolPinBody w k s = .ok (t, d)) : s.calm t := by
  have pinned : ∀ o, s.calm (s.upd k fun x => { x with pin := o }) := fun o => State.calm_upd (Strand.steady_of_same rfl rfl)
  unfold coolPinBody at h
  split at h
  · cases h
  · cases h; exact pinned none
  · split at h <;> cases h
    exact pinned _

theorem handbackBody_calm (h : handbackBody k s = .ok (t, d)) : s.calm t := by
  unfold handbackBody at h
  split at h
  · cases h
  · split at h <;> cases h
    unfold State.leaveByHandback State.shadowReturn
    split
    · exact (State.calm_upd (Strand.steady_of_idle rfl)).trans (State.raise_calm _ _ _ _)
    · exact State.calm_upd (Strand.steady_of_idle rfl)

theorem setArbiterBody_calm {m : Word} {pr : Vector Word 8} (h : setArbiterBody m pr s = .ok (t, d)) : s.calm t := by
  unfold setArbiterBody at h
  split at h
  · cases h
  · split at h
    · cases h
    · split at h <;> cases h
      exact State.calm_of_same rfl rfl rfl rfl

theorem sourceSelectBody_calm {n keep : Word} (h : sourceSelectBody n keep s = .ok (t, d)) : s.calm t := by
  have kept : ∀ (b : Bool) (src : Source), s.calm (if b then s.setConfig fun c => { c with startSource := src } else s) :=
    fun b src => by
      split
      · exact State.calm_of_same rfl rfl rfl rfl
      · exact .refl s
  unfold sourceSelectBody at h
  split at h
  · cases h
  · split at h
    · split at h
      · cases h
      · dsimp only at h
        split at h <;> cases h
        · exact kept _ _
        · exact (kept _ _).trans (State.calm_of_same rfl rfl rfl rfl)
    · cases h

theorem sourceCancelBody_calm (h : sourceCancelBody s = .ok (t, d)) : s.calm t := by
  unfold sourceCancelBody at h
  split at h <;> cases h
  exact State.calm_of_same rfl rfl rfl rfl

theorem sourceFreezeBody_calm (h : sourceFreezeBody s = .ok (t, d)) : s.calm t := by
  cases h
  exact State.calm_of_same rfl rfl rfl rfl

theorem setBeatPeriodBody_calm {p : Word} {n : Nat} (h : setBeatPeriodBody p n s = .ok (t, d)) : s.calm t := by
  unfold setBeatPeriodBody at h
  split at h
  · cases h
  · split at h
    · cases h
    · split at h
      · cases h
      · split at h <;> cases h
        exact State.calm_of_same rfl rfl rfl rfl

theorem setNodeBody_calm {n : Word} (h : setNodeBody n s = .ok (t, d)) : s.calm t := by
  unfold setNodeBody at h
  split at h
  · cases h
  · split at h
    · cases h
    · dsimp only at h
      split at h <;> cases h
      · exact .refl s
      · exact State.calm_of_same rfl rfl rfl rfl

/-- The strands that enter or leave the mask are PASSIVE (R6, R151). -/
theorem setStrandMaskBody_calm {w : Word} (hm : s.mapSound) (h : setStrandMaskBody w s = .ok (t, d)) : s.calm t := by
  have hop : s.op = .idle := by
    by_contra hop
    rw [setStrandMaskBody, if_pos (State.busy_iff.mpr hop)] at h
    cases h
  have idle : ∀ k, (s.ctx k).state = .passive → (s.strand k).ctx.running = false := fun k hk => by
    rw [Context.running, show (s.strand k).ctx.state = _ from hk]
    rfl
  rw [setStrandMaskBody_idle hop] at h
  split at h
  · cases h
  · split at h
    · cases h
    · next hleft =>
      cases h
      refine ⟨rfl, rfl, rfl, fun k => ?_⟩
      rw [State.mapStrands_strand]
      split
      · next hr =>
        rw [Bool.and_eq_true, Bool.not_eq_true'] at hr
        exact Strand.steady_of_idle (idle k (by by_contra hp; exact hleft ⟨k, hr.1, hr.2, hp⟩))
      · split
        · next ha =>
          rw [Bool.and_eq_true, Bool.not_eq_true'] at ha
          refine Strand.steady_of_idle (idle k ?_)
          by_contra hp
          rw [(hm k hp).2] at ha
          exact absurd ha.1 (by decide)
        · exact .refl _

theorem tableOpenBody_calm (h : tableOpenBody s = .ok (t, d)) : s.calm t := by
  unfold tableOpenBody at h
  split at h <;> cases h
  exact State.calm_of_same rfl rfl rfl rfl

theorem tableCloseBody_calm (h : tableCloseBody s = .ok (t, d)) : s.calm t := by
  cases h
  exact State.calm_of_same rfl rfl rfl rfl

/-- A TABLE_WRITE reaches the working image alone (R161). -/
theorem State.writeTable_calm {guarded inUse locked : Bool} {image : Option Image}
    (h : s.writeTable guarded inUse locked image = .ok (t, d)) : s.calm t := by
  obtain ⟨-, -, -, -, i, -, rfl⟩ := State.writeTable_ok h
  exact State.calm_of_same rfl rfl rfl rfl

theorem writeSegmentBody_calm (h : writeSegmentBody index fields s = .ok (t, d)) : s.calm t := by
  unfold writeSegmentBody at h
  split at h <;> exact State.writeTable_calm h

theorem writeProfileBody_calm (h : writeProfileBody index fields s = .ok (t, d)) : s.calm t := by
  unfold writeProfileBody at h
  split at h <;> exact State.writeTable_calm h

theorem writeCoolingBody_calm (h : writeCoolingBody index fields s = .ok (t, d)) : s.calm t := by
  unfold writeCoolingBody at h
  split at h <;> exact State.writeTable_calm h

theorem tableReadBody_calm {kind : Word} (h : tableReadBody kind index s = .ok (t, d)) : s.calm t := by
  unfold tableReadBody at h
  split at h <;> cases h
  exact .refl s

theorem commitBody_calm (h : commitBody s = .ok (t, d)) : s.calm t := by
  unfold commitBody at h
  split at h
  · cases h
  · split at h <;> cases h
    exact State.calm_of_same rfl rfl rfl rfl

theorem protectSetBody_calm {r c l : Word} {key : KeyPos} (h : protectSetBody r c l key s = .ok (t, d)) : s.calm t := by
  unfold protectSetBody at h
  split at h
  · cases h
  · split at h
    · cases h
    · split at h
      · cases h
      · split at h <;> cases h
        exact State.calm_of_same rfl rfl rfl rfl

theorem limitsLockBody_calm (h : limitsLockBody s = .ok (t, d)) : s.calm t := by
  unfold limitsLockBody at h
  split at h
  · cases h
  · split at h
    · cases h
    · split at h
      · cases h
      · split at h <;> cases h
        exact State.calm_of_same rfl rfl rfl rfl

theorem alarmPopBody_calm {n : Word} (h : alarmPopBody n s = .ok (t, d)) : s.calm t := by
  unfold alarmPopBody at h
  split at h <;> cases h
  exact State.calm_of_same rfl rfl rfl rfl

theorem countersReadBody_calm {n : Word} (h : countersReadBody n s = .ok (t, d)) : s.calm t := by
  have counted : ∀ (b : Bool) f, s.calm (if b then s.count f else s) := fun b f => by
    split
    · exact State.calm_of_same rfl rfl rfl rfl
    · exact .refl s
  unfold countersReadBody at h
  split at h
  · cases h
  · dsimp only at h
    split at h <;> cases h <;> exact counted _ _

theorem watchBody_calm {n : Word} (h : watchBody n s = .ok (t, d)) : s.calm t := by
  unfold watchBody at h
  split at h
  · cases h; exact State.calm_of_same rfl rfl rfl rfl
  · split at h <;> cases h
    exact State.calm_of_same rfl rfl rfl rfl

/-! ## Requests that move a condition -/

/-- START refuses while the dip flag is set (R9). -/
theorem startBody_undipped {p sh : Word} (h : startBody p sh k s = .ok (t, d)) : s.plantIn.dip = false := by
  by_contra hdip
  rw [Bool.not_eq_false] at hdip
  unfold startBody at h
  simp only [hdip, if_true] at h
  split at h
  · cases h
  · split at h
    · cases h
    · split at h
      · cases h
      · split at h <;> cases h

/-- A run begins with the reasons whose conditions hold, with the coordinator CLEAR and no dip (R12). -/
theorem State.begun_justified (s : State) (x : Strand) (p : ProfileId) (shadow : Bool) (v : Nat) (lim : Limits) {dip : DipState}
    (hd : dip ≠ .dipped) : (s.begun x p shadow v lim).grounds.justified s.fail .clear dip := by
  have hsensor : (!x.input.bothValid) = true ↔ x.input.bothValid = false := by simp
  exact ⟨hsensor, Iff.rfl, iff_of_false Bool.false_ne_true fun h => Bool.false_ne_true h.1,
    iff_of_false Bool.false_ne_true hd, Iff.rfl⟩

theorem startBody_holdsSound {p sh : Word} (hs : s.holdsSound) (hd : s.dipSound) (h : startBody p sh k s = .ok (t, d)) :
    t.holdsSound := by
  have hdip : s.dip ≠ .dipped := fun e => by
    rw [hd.1, startBody_undipped h] at e
    cases e
  obtain ⟨n, v, lim, -, hclear, hlim, -, -, rfl⟩ := startBody_ok h
  rw [State.beginRun_eq k n _ v hlim]
  refine State.holdsSound_iff.mpr fun j hj => ?_
  rw [State.ctx] at hj
  rw [State.strand_upd] at hj ⊢
  split
  · have hjust := State.begun_justified s (s.strand k) n (sh ≠ 0) v lim hdip
    rw [← hclear] at hjust
    exact hjust
  · next hjk =>
    rw [if_neg hjk] at hj
    exact hs j hj

/-- With the coordinator CLEAR no run holds CHANGE, and in LOWERING none needs it, enrolled or not (R94, R96). -/
theorem Grounds.justified.lowering {g : Grounds} {fail : Bool} {dip : DipState} (h : g.justified fail .clear dip) (b : Bool) :
    { g with enrolled := b }.justified fail .lowering dip := by
  obtain ⟨hsensor, hbeat, hchange, hdip, hreseed⟩ := h
  have hnone : ¬ g.change = true := fun e => (hchange.mp e).2.elim nofun nofun
  exact ⟨hsensor, hbeat, iff_of_false hnone fun h => h.2.elim nofun nofun, hdip, hreseed⟩

/-- Enrolment sets the enrolled flag of a run and leaves its reasons (R94). -/
theorem State.enrolls_grounds (ks : List StrandId) (s : State) :
    (forStrands ks State.enroll s).fail = s.fail ∧ (forStrands ks State.enroll s).dip = s.dip
      ∧ ∀ j, ((forStrands ks State.enroll s).ctx j).running = (s.ctx j).running
        ∧ ∃ b, ((forStrands ks State.enroll s).strand j).grounds = { (s.strand j).grounds with enrolled := b } := by
  induction ks generalizing s with
  | nil => exact ⟨rfl, rfl, fun j => ⟨rfl, _, rfl⟩⟩
  | cons k ks ih =>
    obtain ⟨hfail, hdip, hstrand⟩ := ih (s.enroll k)
    have hunits : (s.enroll k).fail = s.fail ∧ (s.enroll k).dip = s.dip := by
      rw [State.enroll_eq]
      exact ⟨rfl, rfl⟩
    refine ⟨hfail.trans hunits.1, hdip.trans hunits.2, fun j => ?_⟩
    obtain ⟨hrun, b, hb⟩ := hstrand j
    have honce : ((s.enroll k).ctx j).running = (s.ctx j).running
        ∧ { ((s.enroll k).strand j).grounds with enrolled := b } = { (s.strand j).grounds with enrolled := b } := by
      rw [State.enroll_eq, State.ctx, State.strand_upd]
      split
      · next hj => rw [hj]; exact ⟨rfl, rfl⟩
      · exact ⟨rfl, rfl⟩
    exact ⟨hrun.trans honce.1, b, hb.trans honce.2⟩

theorem changeBeginBody_holdsSound (hs : s.holdsSound) (h : changeBeginBody s = .ok (t, d)) : t.holdsSound := by
  unfold changeBeginBody at h
  dsimp only at h
  split at h
  · cases h
  · next hclear =>
    rw [not_not] at hclear
    split at h
    · cases h
    · split at h <;> cases h
      obtain ⟨hfail, hdip, hstrand⟩ := State.enrolls_grounds (strandIds.filter fun k => (s.ctx k).realRun)
        { s with loweringCount := 0 }
      refine State.calm.holdsSound (State.raise_calm _ _ _ _) (State.holdsSound_iff.mpr fun j hj => ?_)
      obtain ⟨hrun, b, hb⟩ := hstrand j
      have hj' := State.holdsSound_iff.mp hs j (hrun.symm.trans hj)
      rw [hclear] at hj'
      have hlow := hj'.lowering b
      change Grounds.justified (forStrands _ State.enroll { s with loweringCount := 0 }).fail .lowering
        (forStrands _ State.enroll { s with loweringCount := 0 }).dip
        ((forStrands _ State.enroll { s with loweringCount := 0 }).strand j).grounds
      rw [hb, hfail, hdip]
      exact hlow

theorem changeCancelBody_holdsSound (hs : s.heldSound) (h : changeCancelBody s = .ok (t, d)) : t.holdsSound := by
  unfold changeCancelBody at h
  split at h <;> cases h
  · exact (State.cancelLowering_heldSound hs).2
  · exact (State.releaseChange_heldSound hs).2

theorem swapConfirmBody_holdsSound (hs : s.heldSound) (h : swapConfirmBody s = .ok (t, d)) : t.holdsSound := by
  unfold swapConfirmBody at h
  split at h <;> cases h
  exact (State.releaseChange_heldSound hs).2

theorem failClearBody_holdsSound (hs : s.heldSound) (h : failClearBody s = .ok (t, d)) : t.holdsSound := by
  unfold failClearBody at h
  split at h <;> cases h
  split
  · exact (State.clearFail_heldSound hs).2
  · exact hs.2

/-- Reasons hold of runs alone. -/
theorem State.holdsSound_idle (h : ∀ k, (t.ctx k).running = false) : t.holdsSound := fun k hk => by
  rw [h k] at hk
  cases hk

theorem setSlotBaseBody_holdsSound {w : Word} (h : setSlotBaseBody w s = .ok (t, d)) : t.holdsSound := by
  have hop : s.op = .idle := by
    by_contra hop
    rw [setSlotBaseBody, if_pos (State.busy_iff.mpr hop)] at h
    cases h
  rw [setSlotBaseBody_idle hop] at h
  split at h
  · cases h
  · next hp =>
    split at h <;> cases h
    refine State.holdsSound_idle fun k => ?_
    have hstrand : State.strand { (s.setConfig fun c => { c with slotBase := some w.toNat }).mapStrands fun _ => Strand.unmap with
        plantIn := {}, dip := .normal, dipCount := 0 } k = (s.strand k).unmap :=
      State.mapStrands_strand (s.setConfig fun c => { c with slotBase := some w.toNat }) (fun _ => Strand.unmap) k
    have hk : (s.strand k).ctx.state = .passive := by
      by_contra hne
      exact hp ⟨k, hne⟩
    rw [State.ctx, hstrand, Context.running, show (s.strand k).unmap.ctx.state = _ from hk]
    rfl

/-! ## The answer to a request -/

theorem State.answer_holdsSound (code : Word) (q : ReqHead) {body : State → Answer}
    (h : ∀ t d, body s = .ok (t, d) → t.holdsSound) (hs : s.holdsSound) : (s.answer code q body).holdsSound := by
  rcases State.answer_cases s code q body with ⟨-, e⟩ | ⟨-, -, e⟩ | ⟨-, -, ⟨r, -, e⟩ | ⟨t, d, hb, e⟩⟩ <;> rw [e]
  · exact hs
  · exact hs
  · exact hs
  · exact h t d hb

theorem State.answer_calm_holdsSound (code : Word) (q : ReqHead) {body : State → Answer}
    (h : ∀ t d, body s = .ok (t, d) → s.calm t) (hs : s.holdsSound) : (s.answer code q body).holdsSound :=
  State.answer_holdsSound code q (fun t d hb => (h t d hb).holdsSound hs) hs

theorem State.answerSized_holdsSound (code : Word) (q : ReqHead) (ok : Bool) {body : State → Answer}
    (h : ∀ t d, body s = .ok (t, d) → s.calm t) (hs : s.holdsSound) : (s.answerSized code q ok body).holdsSound := by
  unfold State.answerSized
  split
  · exact hs
  · split
    · exact State.answer_calm_holdsSound code q h hs
    · exact hs

theorem State.strandRequest_holdsSound (code : Word) (q : ReqHead) (w : Word) {body : StrandId → State → Answer}
    (h : ∀ k t d, body k s = .ok (t, d) → s.calm t) (hs : s.holdsSound) :
    (s.answer code q (State.strandRequest w body)).holdsSound :=
  State.answer_calm_holdsSound code q (fun t d hb => have ⟨k, _, hb⟩ := State.strandRequest_ok hb; h k t d hb) hs

end

/-- A request keeps the reasons of every run at their conditions. -/
theorem State.runRequest_holdsSound (i : Instr) {s : State} (hs : s.heldSound) (hd : s.dipSound) (hm : s.mapSound) :
    (s.runRequest i).holdsSound := by
  obtain ⟨hstrands, hholds⟩ := hs
  cases i with
  | partReset q =>
    change State.holdsSound (if s.isOwn q.origin then s else if s.loading then s.reply 22 q .busy []
      else (s.reply 22 q .ok []).warmReset)
    split
    · exact hholds
    · split
      · exact hholds
      · exact State.holdsSound_idle fun k => by rw [State.ctx, State.warmReset_strand]; rfl
  | track q w => exact State.strandRequest_holdsSound _ _ w (fun _ _ _ => trackBody_calm) hholds
  | untrack q w => exact State.strandRequest_holdsSound _ _ w (fun _ _ _ => untrackBody_calm) hholds
  | start q w p sh =>
    exact State.answer_holdsSound _ _ (fun t e hb => have ⟨k, _, hb⟩ := State.strandRequest_ok hb
      startBody_holdsSound hholds hd hb) hholds
  | hold q w => exact State.strandRequest_holdsSound _ _ w (fun _ _ _ => holdBody_calm) hholds
  | release q w => exact State.strandRequest_holdsSound _ _ w (fun _ _ _ => releaseBody_calm hstrands) hholds
  | clearTrip q w => exact State.strandRequest_holdsSound _ _ w (fun _ _ _ => clearTripBody_calm) hholds
  | readContext q w => exact State.strandRequest_holdsSound _ _ w (fun _ _ _ => readContextBody_calm) hholds
  | setArbiter q m pr => exact State.answer_calm_holdsSound _ _ (fun _ _ => setArbiterBody_calm) hholds
  | coolPin q w t => exact State.strandRequest_holdsSound _ _ w (fun _ _ _ => coolPinBody_calm) hholds
  | changeBegin q => exact State.answer_holdsSound _ _ (fun _ _ => changeBeginBody_holdsSound hholds) hholds
  | changeCancel q =>
    exact State.answer_holdsSound _ _ (fun _ _ => changeCancelBody_holdsSound ⟨hstrands, hholds⟩) hholds
  | swapConfirm q => exact State.answer_holdsSound _ _ (fun _ _ => swapConfirmBody_holdsSound ⟨hstrands, hholds⟩) hholds
  | sourceSelect q n keep => exact State.answer_calm_holdsSound _ _ (fun _ _ => sourceSelectBody_calm) hholds
  | sourceCancel q => exact State.answer_calm_holdsSound _ _ (fun _ _ => sourceCancelBody_calm) hholds
  | sourceFreeze q => exact State.answer_calm_holdsSound _ _ (fun _ _ => sourceFreezeBody_calm) hholds
  | setBeatPeriod q p t => exact State.answer_calm_holdsSound _ _ (fun _ _ => setBeatPeriodBody_calm) hholds
  | failClear q => exact State.answer_holdsSound _ _ (fun _ _ => failClearBody_holdsSound ⟨hstrands, hholds⟩) hholds
  | handback q w => exact State.strandRequest_holdsSound _ _ w (fun _ _ _ => handbackBody_calm) hholds
  | setNode q n => exact State.answer_calm_holdsSound _ _ (fun _ _ => setNodeBody_calm) hholds
  | setSlotBase q b => exact State.answer_holdsSound _ _ (fun _ _ => setSlotBaseBody_holdsSound) hholds
  | setStrandMask q m => exact State.answer_calm_holdsSound _ _ (fun _ _ => setStrandMaskBody_calm hm) hholds
  | tableOpen q => exact State.answer_calm_holdsSound _ _ (fun _ _ => tableOpenBody_calm) hholds
  | tableClose q => exact State.answer_calm_holdsSound _ _ (fun _ _ => tableCloseBody_calm) hholds
  | tableWriteSegment q n fs => exact State.answerSized_holdsSound _ _ _ (fun _ _ => writeSegmentBody_calm) hholds
  | tableWriteProfile q n fs => exact State.answerSized_holdsSound _ _ _ (fun _ _ => writeProfileBody_calm) hholds
  | tableWriteCooling q n fs => exact State.answerSized_holdsSound _ _ _ (fun _ _ => writeCoolingBody_calm) hholds
  | tableWritePlant q n fs => exact State.answerSized_holdsSound _ _ _ (fun _ _ => State.writeTable_calm) hholds
  | tableWriteLimits q n fs => exact State.answerSized_holdsSound _ _ _ (fun _ _ => State.writeTable_calm) hholds
  | tableRead q kind n => exact State.answer_calm_holdsSound _ _ (fun _ _ => tableReadBody_calm) hholds
  | commit q => exact State.answer_calm_holdsSound _ _ (fun _ _ => commitBody_calm) hholds
  | protectSet q r c l key =>
    exact State.answer_calm_holdsSound (s := { s with key }) _ _ (fun _ _ => protectSetBody_calm) hholds
  | limitsLock q => exact State.answer_calm_holdsSound _ _ (fun _ _ => limitsLockBody_calm) hholds
  | alarmPop q n => exact State.answer_calm_holdsSound _ _ (fun _ _ => alarmPopBody_calm) hholds
  | countersRead q fl => exact State.answer_calm_holdsSound _ _ (fun _ _ => countersReadBody_calm) hholds
  | watch q w => exact State.answer_calm_holdsSound _ _ (fun _ _ => watchBody_calm) hholds
  | _ => exact hholds

section
variable {s t : State}

theorem State.requestFrame_holdsSound (f : Frame) (hs : s.heldSound) (hd : s.dipSound) (hm : s.mapSound) :
    (s.requestFrame f).holdsSound := by
  unfold State.requestFrame
  split
  · exact hs.2
  · exact hs.2
  · exact State.runRequest_holdsSound _ hs hd hm
  · exact State.answer_holdsSound _ _ (fun _ _ h => (writeNoKindBody_refuses h).elim) hs.2

theorem State.receive_holdsSound (f : Frame) (hs : s.heldSound) (hd : s.dipSound) (hm : s.mapSound) :
    (s.receive f).holdsSound := by
  have hsend : (s.send f).heldSound := hs
  unfold State.receive
  split
  · exact hs.2
  · exact hs.2
  · exact (State.sourceBeat_heldSound _ _ hsend).2
  · exact (State.plantFrame_heldSound f hs).2
  · exact hs.2
  · exact (State.sensorFrame_heldSound _ f hs).2
  · exact (State.actuatorFrame_heldSound _ f hs).2
  · exact hs.2
  · exact State.requestFrame_holdsSound f hs hd hm
  · exact hs.2

theorem execInputSilence_holdsSound (i : InputId) (hs : s.heldSound) (h : execInputSilence i s = .next t) : t.holdsSound := by
  cases h
  cases i with
  | level k => dsimp only; split; exacts [(State.sense_heldSound k _ hs).2, hs.2]
  | feedback k => dsimp only; split; exacts [(State.sense_heldSound k _ hs).2, hs.2]
  | plant => dsimp only; split; exacts [(State.setPlantInput_heldSound _ hs).2, hs.2]

theorem execInputClear_holdsSound (i : InputId) (hs : s.heldSound) (h : execInputClear i s = .next t) : t.holdsSound := by
  cases h
  cases i with
  | level k => dsimp only; split; exacts [(State.sense_heldSound k _ hs).2, hs.2]
  | feedback k => dsimp only; split; exacts [(State.sense_heldSound k _ hs).2, hs.2]
  | plant => dsimp only; split; exacts [(State.setPlantInput_heldSound _ hs).2, hs.2]

theorem State.endLoad_calm (n : Nat) (s : State) : s.calm (s.endLoad n) := by
  unfold State.endLoad
  dsimp only
  split
  · refine State.calm.trans ?_ (State.raise_calm _ _ _ _)
    exact State.calm_of_same rfl rfl rfl rfl
  · exact State.calm_of_same rfl rfl rfl rfl

/-- A blend step reaches a strand in HANDBACK alone, which runs neither before nor after it (R135, R137). -/
theorem State.blendStep_calm (k : StrandId) (s : State) : s.calm (s.blendStep k) := by
  obtain ⟨hnear, hother, hsame⟩ := State.blendStep_near k s
  refine State.calm_of_near hnear fun j => ?_
  by_cases hj : j = k
  · by_cases hstate : (s.ctx k).state = .handback
    · refine Strand.steady_of_idle (Bool.not_eq_true _ ▸ fun hr => ?_)
      have hrun := (State.blendStep_moves k s).running (k := j) hr
      rw [hj, Context.running, hstate] at hrun
      cases hrun
    · rw [hsame hstate]
      exact .refl _
  · rw [hother j hj]
    exact .refl _

/-- Every command keeps the reasons of every run at their conditions. -/
theorem exec_holdsSound {c : Instr} (h : exec c s = .next t) (hs : s.heldSound) (hd : s.dipSound) (hm : s.mapSound) :
    t.holdsSound := by
  have stays : ∀ {p : Prop} [Decidable p] {u : State}, u.heldSound → (if p then u else s).holdsSound := fun hu => by
    split
    · exact hu.2
    · exact hs.2
  have calmly : ∀ {p : Prop} [Decidable p] {u : State}, s.calm u → (if p then u else s).holdsSound := fun hu => by
    split
    · exact hu.holdsSound hs.2
    · exact hs.2
  have received := fun f => State.receive_holdsSound f hs hd hm
  cases hq : c.head with
  | some q =>
    rw [exec_request hq] at h
    cases h
    exact State.runRequest_holdsSound c hs hd hm
  | none =>
    cases c with
    | powerOnReset => cases h; exact State.holdsSound_idle fun k => by rw [State.ctx, State.powerOn_strand]; rfl
    | startUpLoadDone n => cases h; exact calmly (State.endLoad_calm n s)
    | warmReset => cases h; exact State.holdsSound_idle fun k => by rw [State.ctx, State.warmReset_strand]; rfl
    | commitDone =>
      cases h
      split
      · exact (State.raise_calm _ _ _ _).holdsSound hs.2
      · exact hs.2
    | lockDone =>
      cases h
      split
      · exact (State.raise_calm _ _ _ _).holdsSound hs.2
      · exact hs.2
    | unknownRequest f => cases h; split; exacts [State.requestFrame_holdsSound f hs hd hm, received f]
    | badCheckFrame words =>
      cases h
      split
      · exact hs.2
      · next f _ => exact received f
    | ownFrameReturn f => cases h; split; exacts [hs.2, received f]
    | passThroughFrame f => cases h; split; exacts [hs.2, received f]
    | malformedFrame f => cases h; split; exacts [hs.2, received f]
    | beatFrame f n => cases h; split; exacts [(State.sourceBeat_heldSound (s := s.send f) _ n hs).2, received f]
    | pulseEdge n => cases h; exact (State.sourceBeat_heldSound .pulse n hs).2
    | localExpiry => cases h; exact (State.localBeat_heldSound hs).2
    | sourceSilent src => cases h; exact (State.sourceSilence_heldSound src hs).2
    | switchComplete n =>
      cases h
      split
      · exact hs.2
      · exact (State.localBeat_heldSound hs).2
      · split
        exacts [(State.sourceBeat_heldSound _ n hs).2, hs.2]
    | blendComplete k =>
      cases h
      split
      exacts [calmly (State.blendStep_calm k s), hs.2]
    | starved k =>
      cases h
      exact calmly ((State.calm_upd (Strand.steady_of_same rfl rfl)).trans (State.raise_calm _ _ _ _))
    | deficit => cases h; exact calmly (State.countDeficit_calm s)
    | inputSilence i => exact execInputSilence_holdsSound i hs h
    | sensorSample f => cases h; split; exacts [(State.sensorFrame_heldSound _ f hs).2, received f]
    | levelFrozen k => cases h; exact stays (State.sense_heldSound k _ hs)
    | inputClear i => exact execInputClear_holdsSound i hs h
    | levelTrip k => cases h; exact stays (State.tripAll_heldSound .level [k] hs)
    | plantSample f => cases h; split; exacts [(State.plantFrame_heldSound f hs).2, received f]
    | dipWindowExpiry => cases h; exact stays (State.dipBeat_heldSound hs)
    | loweringWindowExpiry => cases h; exact stays (State.changeBeat_heldSound hs)
    | swapWindowExpiry => cases h; exact stays (State.changeBeat_heldSound hs)
    | followTrip k =>
      cases h
      exact stays (State.tripAll_heldSound .follow [k]
        ((State.countFollow_calm _ k s).heldSound (State.countFollow_moves _ k s) hs))
    | masterActuatorFrame f => cases h; split; exacts [(State.actuatorFrame_heldSound _ f hs).2, received f]
    | statusSlotFrame f => cases h; split; exacts [hs.2, received f]
    | originate k => cases h; exact calmly (State.originStep_calm k s)
    | retiredNodeClear => cases h; exact calmly (State.calm_of_same rfl rfl rfl rfl)
    | _ => cases hq

/-- Settles O57: every event takes the reasons of every run with their conditions, from sound records and units. -/
theorem holdReasonsFollowTheirConditions : Obligations.HoldReasonsFollowTheirConditions := by
  intro s t hstrands _ hdip hmap hholds h
  unfold step at h
  split at h
  · cases h; exact hholds
  · exact exec_holdsSound (s := { s with pending := _ }) h ⟨hstrands, hholds⟩ hdip hmap

end

end Sys2Proof.Machine

/-! CHANGE_BEGIN (R92, R94, R95). -/

namespace Sys2Proof.Machine

/-- The records of a strand that joins the enrolled set, under the tables of s (R94, R95). -/
def State.joined (s : State) (x : Strand) : Strand :=
  { x with
    mark := some (min x.ctx.acc (s.changeSpeed * 64))
    ctx := { x.ctx with
      enrolled := true
      target := some (if s.changeSpeed * 64 < x.ctx.acc then s.changeSpeed else x.ctx.acc / 64)
      rate := some (min s.plant.changeRate s.lim.speed.maxRate) } }

theorem State.joined_near {s t : State} (h : s.near t) : t.joined = s.joined := by
  unfold State.near at h; rw [h]; rfl

/-- The enrolment of every real run, as one change of the strands (R94). -/
theorem State.enrollRunners_eq (s : State) :
    forStrands (strandIds.filter fun k => (s.ctx k).realRun) State.enroll s
      = s.mapStrands fun _ x => if x.ctx.realRun then s.joined x else x := by
  have each : ∀ k t, s.near t → State.enroll k t = t.upd k s.joined := fun k t ht =>
    (State.enroll_eq k t).trans (congrArg (t.upd k) (State.joined_near ht))
  rw [forStrands_eq_upd each, forStrands_upd_filter]
  exact State.mapStrands_congr fun _ => rfl

/-- The strands that CHANGE_BEGIN enrolls are there when one of them runs (R94). -/
theorem State.noRunners_iff (s : State) :
    (strandIds.filter fun k => (s.ctx k).realRun) = [] ↔ ∀ k, (s.ctx k).realRun = false := by
  simp [List.filter_eq_nil_iff, mem_strandIds]

/-- The state in which a change has begun (R92, R94, R95). -/
def State.changeBegun (s : State) : State :=
  { s.mapStrands (fun _ x => if x.ctx.realRun then s.joined x else x) with change := .lowering, loweringCount := 0 }.raise
    .change none 1

/-- CHANGE_BEGIN, its checks in their order (R94). -/
theorem changeBeginBody_eq (s : State) : changeBeginBody s =
    if s.change ≠ .clear then .error .state
    else if s.limits = none then .error .noLimits
    else if ∀ k, (s.ctx k).realRun = false then .error .state
    else .ok (s.changeBegun, []) := by
  have hbegun : (forStrands (strandIds.filter fun k => (s.ctx k).realRun) State.enroll { s with loweringCount := 0 }).moveChange
      .lowering = s.changeBegun :=
    congrArg (State.moveChange · .lowering) (State.enrollRunners_eq { s with loweringCount := 0 })
  unfold changeBeginBody
  simp only [hbegun, State.noRunners_iff]

/-- Settles O23: the checks of CHANGE_BEGIN one after another, and the state in which the change has begun. -/
theorem changeBeginEnrollsTheRunners : Obligations.ChangeBeginEnrollsTheRunners := by
  intro s q ha go
  have refused : ∀ r, changeBeginBody s = .error r → go = .next (s.reply 10 q r []) := fun _ h =>
    congrArg Host.Outcome.next (State.answer_error ha h)
  rw [changeBeginBody_eq] at refused
  refine ⟨fun hc => refused _ (if_pos hc), fun hc hl => refused _ ?_, fun hc hl hr => refused _ ?_, ?_⟩
  · rw [if_neg (not_not.mpr hc), if_pos hl]
  · rw [if_neg (not_not.mpr hc), if_neg hl, if_pos hr]
  · rintro lim hc hl ⟨k, hk⟩ c
    have hlim : s.lim = lim := State.lim_of_limits hl
    have hbody : changeBeginBody s = .ok (s.changeBegun, []) := by
      rw [changeBeginBody_eq, if_neg (not_not.mpr hc), if_neg (by rw [hl]; nofun), if_neg fun h => by simp [h k] at hk]
    refine congrArg Host.Outcome.next ((State.answer_ok ha hbody).trans ?_)
    unfold State.changeBegun State.joined State.changeSpeed
    rw [hlim]

end Sys2Proof.Machine

/-! Who is enrolled, beside the coordinator's state, and the events that leave both alone (R91). -/

namespace Sys2Proof.Machine

/-! ## The enrolment -/

/-- A strand in a state beside RAMPING and HOLDING runs no profile (R4). -/
theorem Context.idle_of_state {c : Context} {st : StrandState} (h : c.state = st) (hr : st ≠ .ramping) (hh : st ≠ .holding) :
    c.running = false := by
  by_contra hrun
  rcases (Context.running_iff c).mp (Bool.not_eq_false _ ▸ hrun) with e | e
  · exact hr (h.symm.trans e)
  · exact hh (h.symm.trans e)

/-- The coordinator's state and the enrolled flag of each strand: what the enrolled set and the coordinator agree by (R91). -/
def State.enrolment (s : State) : ChangeState × (StrandId → Bool) := (s.change, fun k => (s.ctx k).enrolled)

/-- Sound records, and an enrolled set that is empty exactly while the coordinator is CLEAR. -/
def State.coordinated (s : State) : Prop := s.strandsSound ∧ s.changeSound

section
variable {s t : State} {k : StrandId}

theorem State.enrolment_eq (hc : t.change = s.change) (h : ∀ k, (t.ctx k).enrolled = (s.ctx k).enrolled) :
    t.enrolment = s.enrolment :=
  Prod.ext hc (funext h)

@[simp] theorem State.enrolment_raise (s : State) (a : AlarmKind) (o : Option StrandId) (n : Nat) :
    (s.raise a o n).enrolment = s.enrolment := by
  unfold State.raise; split <;> rfl

@[simp] theorem State.enrolment_raiseLoss (s : State) (o : Option StrandId) (n : Nat) (a b : LossState) :
    (s.raiseLoss o n a b).enrolment = s.enrolment := by
  rcases State.raiseLoss_cases s o n a b with e | ⟨_, _, e⟩ <;> simp [e]

theorem State.enrolment_upd {f : Strand → Strand} (h : (f (s.strand k)).ctx.enrolled = (s.ctx k).enrolled) :
    (s.upd k f).enrolment = s.enrolment :=
  State.enrolment_eq rfl fun j => by
    rw [State.ctx, State.strand_upd]
    split
    · next hj => rw [hj]; exact h
    · rfl

theorem forStrands_enrolment {l : List StrandId} {f : StrandId → State → State}
    (h : ∀ k t, State.enrolment (f k t) = t.enrolment) (s : State) : (forStrands l f s).enrolment = s.enrolment :=
  forStrands_induct (·.enrolment = s.enrolment) l f (fun k _ t ht => (h k t).trans ht) s rfl

/-- A strand that runs no profile is not enrolled (R91). -/
theorem State.unenrolled_of_idle (hs : s.strandsSound) (h : (s.ctx k).running = false) : (s.ctx k).enrolled = false := by
  obtain ⟨-, -, -, henrolled, -⟩ := hs k
  by_contra he
  have hrun := ((Context.realRun_iff _).mp (henrolled (Bool.not_eq_false _ ▸ he))).1
  exact absurd (h.symm.trans hrun) Bool.false_ne_true

/-- A strand that runs no profile keeps out of the enrolled set. -/
theorem State.enrolment_upd_idle {f : Strand → Strand} (hs : s.strandsSound) (h : (s.ctx k).running = false)
    (hf : (f (s.strand k)).ctx.enrolled = false) : (s.upd k f).enrolment = s.enrolment :=
  State.enrolment_upd (hf.trans (State.unenrolled_of_idle hs h).symm)

/-- Only a run can be enrolled, so an event that begins no run leaves the enrolment where it leaves it of every run. -/
theorem State.enrolment_of_runs (hs : s.strandsSound) (hm : s.moves t) (hc : t.change = s.change)
    (h : ∀ k, (s.ctx k).running = true → (t.ctx k).enrolled = (s.ctx k).enrolled) : t.enrolment = s.enrolment :=
  State.enrolment_eq hc fun k => by
    by_cases hr : (s.ctx k).running = true
    · exact h k hr
    · have hidle : (t.ctx k).running = false := Bool.not_eq_true _ ▸ fun ht => hr (hm.running ht)
      rw [State.unenrolled_of_idle hs (Bool.not_eq_true _ ▸ hr), State.unenrolled_of_idle (hm.strandsSound hs) hidle]

/-- The enrolled set is empty when no enrolled flag is set (R91). -/
theorem State.anyEnrolled_eq_false_iff (hs : s.strandsSound) : s.anyEnrolled = false ↔ ∀ k, (s.ctx k).enrolled = false := by
  rw [State.anyEnrolled_eq_false]
  refine forall_congr' fun k => ?_
  obtain ⟨-, -, hmark, -⟩ := hs k
  rw [← Option.not_isSome_iff_eq_none, ← Bool.not_eq_true]
  exact not_congr hmark

theorem State.changeSound_iff (hs : s.strandsSound) :
    s.changeSound ↔ (s.enrolment.1 = .clear ↔ ∀ k, s.enrolment.2 k = false) :=
  iff_congr Iff.rfl (State.anyEnrolled_eq_false_iff hs)

/-- The enrolment decides whether the enrolled set and the coordinator agree. -/
theorem State.coordinated.changeSound (hs : s.coordinated) (ht : t.strandsSound) (h : t.enrolment = s.enrolment) :
    t.changeSound := by
  rw [State.changeSound_iff ht, h]
  exact (State.changeSound_iff hs.1).mp hs.2

theorem State.coordinated.keep (hs : s.coordinated) (hm : s.moves t) (h : t.enrolment = s.enrolment) : t.coordinated :=
  ⟨hm.strandsSound hs.1, hs.changeSound (hm.strandsSound hs.1) h⟩

theorem State.raise_coordinated (a : AlarmKind) (o : Option StrandId) (n : Nat) (hs : s.coordinated) :
    (s.raise a o n).coordinated :=
  hs.keep ((State.moves.refl s).raise a o n) (State.enrolment_raise s a o n)

/-! ## The coordinator and the enrolled set together -/

theorem State.moveChange_changeSound {c : ChangeState} (h : c = .clear ↔ s.anyEnrolled = false) :
    (s.moveChange c).changeSound := by
  rw [State.anyEnrolled_eq_false] at h
  unfold State.changeSound
  rw [State.anyEnrolled_eq_false]
  simp only [State.moveChange, State.raise_change, State.strand_raise]
  exact h

/-- Only a strand that was enrolled before a calm event is enrolled after it. -/
theorem State.calm.enrolled (h : s.calm t) (ht : t.strandsSound) (hk : (t.ctx k).enrolled = true) :
    (s.ctx k).enrolled = true := by
  have hrun : (t.ctx k).running = true := by
    by_contra hr
    exact absurd ((State.unenrolled_of_idle ht (Bool.not_eq_true _ ▸ hr)).symm.trans hk) Bool.false_ne_true
  obtain ⟨-, hg⟩ := h.strands k hrun
  exact (congrArg Grounds.enrolled hg).symm.trans hk

/-- Strands may leave the enrolled set in an event after which the coordinator follows (R92, R102). -/
theorem State.coordinated.settle (hs : s.coordinated) (hm : s.moves t) (hcalm : s.calm t) : t.settleChange.coordinated := by
  have ht := hm.strandsSound hs.1
  refine ⟨(State.settleChange_moves t).strandsSound ht, ?_⟩
  unfold State.settleChange
  split
  · next h => exact State.moveChange_changeSound (iff_of_true rfl (Bool.not_eq_true _ ▸ h.2))
  · next h =>
    refine ⟨fun hc => (State.anyEnrolled_eq_false_iff ht).mpr fun k => ?_, fun he => ?_⟩
    · have hnone := (State.anyEnrolled_eq_false_iff hs.1).mp (hs.2.mp (hcalm.change.symm.trans hc)) k
      by_contra hk
      exact absurd (hnone.symm.trans (hcalm.enrolled ht (Bool.not_eq_false _ ▸ hk))) Bool.false_ne_true
    · by_contra hc
      exact h ⟨hc, Bool.not_eq_true _ ▸ he⟩

theorem State.tripAll_coordinated (why : Cause) (ks : List StrandId) (hs : s.coordinated) : (s.tripAll why ks).coordinated :=
  hs.settle (State.trips_moves why ks s) (State.trips_calm why ks s)

/-- A claim is granted at once: the run ends, and the coordinator follows (R140). -/
theorem State.grantClaim_coordinated (k : StrandId) (hs : s.coordinated) (h : (s.ctx k).realRun = true) :
    (s.grantClaim k).coordinated := by
  have hrun : (s.strand k).ctx.running = true := ((Context.realRun_iff _).mp h).1
  have hp : (s.strand k).ctx.state ≠ .passive := fun e =>
    absurd ((Context.idle_of_state e nofun nofun).symm.trans hrun) Bool.false_ne_true
  have hleft : s.moves (s.upd k Strand.enterTracking) := State.moves_upd s k _ (Strand.Move.leave _ _ _ _ hp).moves
  exact State.raise_coordinated _ _ _ (hs.settle hleft (State.calm_upd (Strand.steady_of_idle rfl)))

/-! ## Segments and the change override -/

theorem State.enterSegment_enrolment (k : StrandId) (n : Fin 8) (s : State) : (s.enterSegment k n).enrolment = s.enrolment := by
  unfold State.enterSegment
  split
  · rfl
  · have entered : ∀ g, (s.updCtx k fun c =>
        s.loadSegment g { c with segment := some (.seg n), dwell := 0, confirmSeen := false }).enrolment = s.enrolment :=
      fun g => State.enrolment_upd rfl
    dsimp only
    split
    · exact (State.enrolment_upd rfl).trans (entered _)
    · exact entered _

theorem State.reload_enrolment (k : StrandId) (s : State) : (s.reload k).enrolment = s.enrolment := by
  unfold State.reload
  split
  · exact State.enterSegment_enrolment k _ s
  · split
    · exact State.enrolment_upd rfl
    · rfl

/-! ## The Change Coordinator (R96 to R101) -/

/-- The coordinator moves to AT_LOW with the strands that are enrolled (R96). -/
theorem State.toAtLow_enrolment (s : State) : s.toAtLow.enrolment = (.atLow, s.enrolment.2) := by
  have each : ∀ k (t : State), ((t.updCtx k (Context.addReason .change)).reload k).enrolment = t.enrolment := fun k t =>
    (State.reload_enrolment k _).trans (State.enrolment_upd (Context.addReason_enrolled .change _))
  unfold State.toAtLow
  rw [State.enrolment_raise]
  exact forStrands_enrolment each _

theorem State.toAtLow_coordinated (hs : s.strandsSound) (h : s.anyEnrolled ≠ false) : s.toAtLow.coordinated := by
  have ht := (State.toAtLow_moves s).strandsSound hs
  refine ⟨ht, (State.changeSound_iff ht).mpr ?_⟩
  rw [State.toAtLow_enrolment]
  exact iff_of_false nofun fun hnone => h ((State.anyEnrolled_eq_false_iff hs).mpr hnone)

theorem State.expireLowering_coordinated (hs : s.coordinated) : s.expireLowering.coordinated := by
  have htrips := (State.trips_moves .changeLate s.laggards s).strandsSound hs.1
  refine ⟨(State.expireLowering_moves s).strandsSound hs.1, ?_⟩
  unfold State.expireLowering
  dsimp only
  split
  · next h => exact (State.toAtLow_coordinated htrips (by rw [h]; nofun)).2
  · next h => exact State.moveChange_changeSound (iff_of_true rfl (Bool.not_eq_true _ ▸ h))

theorem State.expireSwap_coordinated (hs : s.coordinated) : s.expireSwap.coordinated :=
  ⟨(State.expireSwap_moves s).strandsSound hs.1, State.moveChange_changeSound
    (iff_of_true rfl ((State.anyEnrolled_eq_false _).mpr (State.trips_enrolledSet .swapTimeout hs.1)))⟩

theorem State.changeBeat_coordinated (hs : s.coordinated) : s.changeBeat.coordinated := by
  unfold State.changeBeat
  split
  · next hc =>
    have hcount : s.countLowering.coordinated := hs
    split
    · exact State.toAtLow_coordinated hs.1 (mt hs.2.mpr (by rw [hc]; nofun))
    · split
      · exact State.expireLowering_coordinated hcount
      · exact hcount
  · have hcount : s.countSwap.coordinated := hs
    split
    · exact State.expireSwap_coordinated hcount
    · exact hcount
  · exact hs
  · exact hs

/-- A release takes every low mark and leaves the coordinator CLEAR (R100, R101). -/
theorem State.released_changeSound {f : Strand → Strand} (hf : ∀ x, (f x).mark = none)
    (ht : t = { s.mapStrands (fun _ x => if x.mark.isSome then f x else x) with change := .clear }.raise .change none 0) :
    t.changeSound := by
  rw [ht]
  refine iff_of_true (State.raise_change _ _ _ _) ((State.anyEnrolled_eq_false _).mpr fun k => ?_)
  have hstrand := State.mapStrands_strand s (fun _ x => if x.mark.isSome then f x else x) k
  rw [State.strand_raise]
  refine (congrArg Strand.mark hstrand).trans ?_
  split
  · exact hf _
  · next h => exact Option.not_isSome_iff_eq_none.mp h

theorem State.releaseChange_changeSound (s : State) : s.releaseChange.changeSound :=
  State.released_changeSound (fun _ => rfl) (State.releaseChange_eq s)

theorem State.cancelLowering_changeSound (s : State) : s.cancelLowering.changeSound := by
  refine State.released_changeSound (s := s) (f := fun x => { x with ctx := s.reloaded x.ctx }.released) ?_ ?_
  · exact fun _ => rfl
  · exact State.cancelLowering_eq s

theorem State.takeWeight_coordinated (w : Nat) (hs : s.coordinated) : (s.takeWeight w).coordinated := by
  refine ⟨(State.takeWeight_moves w s).strandsSound hs.1, ?_⟩
  unfold State.takeWeight
  split
  · next hc =>
    split
    · have henrolled : s.anyEnrolled ≠ false := mt hs.2.mpr (by rw [hc]; nofun)
      exact State.moveChange_changeSound (iff_of_false nofun henrolled)
    · exact hs.2
  · split
    · exact State.releaseChange_changeSound s
    · exact hs.2
  · exact hs.2
  · exact hs.2

end

end Sys2Proof.Machine

/-! Beats, samples and frames, against the enrolled set (R38 to R45, R75 to R89, R102, R106 to R112, R118 to R125, R139 to R142,
R155). -/

namespace Sys2Proof.Machine

section
variable {s t : State}

/-! ## The admission pass -/

theorem State.completionTest_enrolment (k : StrandId) (s : State) : (s.completionTest k).enrolment = s.enrolment := by
  rcases State.completionTest_cases k s with
    ⟨h, -⟩ | ⟨p, n, -, -, -, he, -, ⟨n', -, h⟩ | ⟨-, -, h⟩ | ⟨-, -, -, h⟩ | ⟨-, -, -, h⟩⟩ <;> rw [h]
  · exact State.enterSegment_enrolment k n' s
  · rw [State.enrolment_raise]
    exact State.enrolment_upd rfl
  · exact State.enrolment_upd he.symm
  · rw [State.enrolment_raise]
    exact State.enrolment_upd he.symm

/-- The results of a pass leave every run enrolled or not, as it was (R65). -/
theorem State.passResults_enrolment (i : Nat) (hs : s.strandsSound) : (s.passResults i).enrolment = s.enrolment :=
  State.enrolment_of_runs hs (State.passResults_moves i s) (State.passResults_near i s).change fun k hk => by
    obtain ⟨a, starved, g, -, hstrand⟩ := State.passResults_steps i hk
    rw [State.ctx, hstrand]
    unfold Strand.steppedTo Strand.regranted
    split <;> rfl

theorem State.movePointer_enrolment (won : List StrandId) (s : State) : (s.movePointer won).enrolment = s.enrolment := by
  unfold State.movePointer
  split <;> rfl

theorem State.raiseStarved_enrolment (l : List (StrandId × Bool)) (s : State) : (s.raiseStarved l).enrolment = s.enrolment := by
  obtain ⟨hnear, hstrand⟩ := State.raiseStarved_near l s
  exact State.enrolment_eq hnear.change fun k => by rw [State.ctx, hstrand]; rfl

theorem State.countDeficit_enrolment (s : State) : s.countDeficit.enrolment = s.enrolment := by
  unfold State.countDeficit
  split
  · dsimp only
    split
    · exact State.enrolment_raise _ _ _ _
    · rfl
  · rfl

theorem State.admissionPass_enrolment (i : Nat) (hs : s.strandsSound) : (s.admissionPass i).enrolment = s.enrolment := by
  rw [State.admissionPass_eq, State.countDeficit_enrolment, State.raiseStarved_enrolment, State.movePointer_enrolment]
  exact (forStrands_enrolment State.completionTest_enrolment _).trans (State.passResults_enrolment i hs)

/-! ## The Input Monitor -/

theorem Context.sensorChange_enrolled (before after : StrandInput) (c : Context) :
    (c.sensorChange before after).enrolled = c.enrolled := by
  obtain ⟨n, hn⟩ := c.sensorChange_cases before after
  rw [hn]
  split_ifs <;> simp

theorem State.setInput_enrolment (k : StrandId) (after : StrandInput) (s : State) :
    (s.setInput k after).enrolment = s.enrolment := by
  unfold State.setInput
  rw [State.enrolment_raiseLoss, State.enrolment_raiseLoss]
  exact State.enrolment_upd rfl

theorem State.sensorChange_enrolment (k : StrandId) (before after : StrandInput) (s : State) :
    (s.updCtx k (Context.sensorChange before after)).enrolment = s.enrolment :=
  State.enrolment_upd (Context.sensorChange_enrolled before after _)

theorem State.sense_coordinated (k : StrandId) (before after : StrandInput) (hs : s.coordinated) :
    ((s.setInput k after).updCtx k (Context.sensorChange before after)).coordinated :=
  hs.keep (State.sense_moves k before after s)
    ((State.sensorChange_enrolment k before after _).trans (State.setInput_enrolment k after s))

theorem State.setPlantInput_enrolment (after : PlantInput) (s : State) : (s.setPlantInput after).enrolment = s.enrolment := by
  unfold State.setPlantInput
  rw [State.enrolment_raiseLoss]
  rfl

theorem State.setPlantInput_coordinated (after : PlantInput) (hs : s.coordinated) : (s.setPlantInput after).coordinated := by
  have ht : (s.setPlantInput after).strandsSound := fun k => State.setPlantInput_strands s after k ▸ hs.1 k
  exact ⟨ht, hs.changeSound ht (State.setPlantInput_enrolment after s)⟩

theorem State.inputBeat_coordinated (hs : s.coordinated) : s.inputBeat.coordinated :=
  State.setPlantInput_coordinated _
    (forStrands_induct State.coordinated _ _ (fun k _ _ ht => State.sense_coordinated k _ _ ht) s hs)

theorem State.countFollow_enrolment (acc : Nat) (k : StrandId) (s : State) : (s.countFollow acc k).enrolment = s.enrolment := by
  unfold State.countFollow
  split
  · exact State.enrolment_upd rfl
  · rfl

theorem State.followBeat_coordinated (i : Nat) (acc : StrandId → Nat) (hs : s.coordinated) :
    (s.followBeat i acc).coordinated :=
  State.tripAll_coordinated .follow _ (hs.keep (forStrands_moves _ _ s fun k _ t _ => State.countFollow_moves (acc k) k t)
    (forStrands_enrolment (fun k => State.countFollow_enrolment (acc k) k) s))

theorem State.takeBreakout_coordinated (k : StrandId) (before flag : Bool) (hs : s.coordinated) :
    (s.takeBreakout k before flag).coordinated := by
  have htrip := State.tripAll_coordinated .breakout [k] hs
  unfold State.takeBreakout
  split
  · split
    · exact htrip
    · exact htrip
    · exact htrip
    · split
      · exact hs
      · exact State.raise_coordinated _ _ _ hs
    · exact hs
    · exact hs
  · exact hs

theorem State.takeConfirm_enrolment (k : StrandId) (flag : Bool) (s : State) : (s.takeConfirm k flag).enrolment = s.enrolment := by
  unfold State.takeConfirm
  split
  · split
    · exact State.enrolment_upd rfl
    · rfl
  · rfl

theorem Context.gateLevel_enrolled (p : Profile) (n : Nat) (c : Context) : (c.gateLevel p n).enrolled = c.enrolled := by
  unfold Context.gateLevel
  split
  · exact Context.addReason_enrolled _ _
  · split
    · exact Context.removeReason_enrolled _ _
    · rfl

theorem State.levelGate_coordinated (k : StrandId) (level : Int) (hs : s.coordinated) : (s.levelGate k level).coordinated := by
  unfold State.levelGate
  split
  · next h =>
    have hgated : (s.updCtx k fun c =>
        (c.gateLevel (s.profileOf (s.ctx k)) level.natAbs).countExcess (s.profileOf (s.ctx k)) level.natAbs).coordinated :=
      hs.keep (State.moves_updCtx s k _
          (.tail (Strand.gateLevel_moves _ _ _ _) (.note _ _ (by simpa [State.ctx] using h.1) rfl)))
        (State.enrolment_upd (Context.gateLevel_enrolled _ _ _))
    dsimp only
    split
    · exact State.tripAll_coordinated .level [k] hgated
    · exact hgated
  · exact hs

/-- A fresh sensor sample: its record, breakout, SENSOR, the confirm latch and the level gate (R75). -/
theorem State.takeFreshSensor_coordinated (k : StrandId) (x : SensorReading) (hs : s.coordinated) :
    (s.takeFreshSensor k x).coordinated := by
  have hinput := hs.keep (State.setInput_moves k ((s.strand k).input.take s.plant x) s) (State.setInput_enrolment k _ s)
  have hbreakout := State.takeBreakout_coordinated k (s.strand k).input.breakout x.breakout hinput
  have hsensed := hbreakout.keep (State.moves_updCtx _ k _ (Strand.sensorChange_moves _ _ (s.strand k).input
    ((s.strand k).input.take s.plant x))) (State.sensorChange_enrolment k _ _ _)
  exact State.levelGate_coordinated k x.level
    (hsensed.keep (State.takeConfirm_moves k x.confirm _) (State.takeConfirm_enrolment k x.confirm _))

theorem State.takeSensor_coordinated (k : StrandId) (x : SensorReading) (hs : s.coordinated) : (s.takeSensor k x).coordinated := by
  unfold State.takeSensor
  split
  · exact hs
  · exact State.takeFreshSensor_coordinated k x hs

/-! ## The Dip Monitor -/

theorem State.dipBegin_enrolment (s : State) : s.dipBegin.enrolment = s.enrolment := by
  unfold State.dipBegin
  rw [State.enrolment_raise]
  exact forStrands_enrolment (fun k t => State.enrolment_upd (Context.addReason_enrolled .dip _)) _

theorem State.reseedStrand_enrolment (k : StrandId) (s : State) : (s.reseedStrand k).enrolment = s.enrolment := by
  unfold State.reseedStrand
  dsimp only
  refine (State.enrolment_upd (Context.removeReason_enrolled .dip _)).trans ?_
  exact (State.enterSegment_enrolment k _ _).trans (State.enrolment_upd rfl)

theorem State.dipEnd_enrolment (s : State) : s.dipEnd.enrolment = s.enrolment := by
  unfold State.dipEnd
  rw [State.enrolment_raise]
  exact forStrands_enrolment State.reseedStrand_enrolment _

theorem State.takeDipFlag_coordinated (before now : Bool) (hs : s.coordinated) : (s.takeDipFlag before now).coordinated := by
  unfold State.takeDipFlag
  split
  · exact State.coordinated.keep (s := { s with dip := .dipped }) hs (State.dipBegin_moves s) (State.dipBegin_enrolment s)
  · exact State.coordinated.keep (s := { s with dip := .normal }) hs (State.dipEnd_moves s) (State.dipEnd_enrolment s)
  · exact hs

theorem State.takePlant_coordinated (x : PlantReading) (hs : s.coordinated) : (s.takePlant x).coordinated := by
  have hin := State.setPlantInput_coordinated (s.plantIn.take s.plant x) hs
  unfold State.takePlant
  split
  · exact hs
  · dsimp only
    split
    · exact State.takeWeight_coordinated _ (State.takeDipFlag_coordinated _ _ hin)
    · exact hin

theorem State.dipBeat_coordinated (hs : s.coordinated) : s.dipBeat.coordinated := by
  have hcount : s.countDip.coordinated := hs
  unfold State.dipBeat
  split
  · exact hs
  · split
    · exact State.tripAll_coordinated .dipLong _ hcount
    · exact hcount

/-! ## The Line Interface and the whole beat -/

theorem State.originStep_enrolment (k : StrandId) (s : State) : (s.originStep k).enrolment = s.enrolment := by
  have hcount : (s.upd k Strand.countSilence).enrolment = s.enrolment := State.enrolment_upd (by
    unfold Strand.countSilence
    split <;> rfl)
  have hraise : (if (s.strand k).silence + 1 = 2 then (s.upd k Strand.countSilence).raise .originate (some k) 0
      else s.upd k Strand.countSilence).enrolment = s.enrolment := by
    split
    · rw [State.enrolment_raise]
      exact hcount
    · exact hcount
  unfold State.originStep
  split
  · dsimp only
    split <;> exact hraise
  · rfl

theorem State.lineBeat_enrolment (s : State) : s.lineBeat.enrolment = s.enrolment := by
  have hsend : s.countRetired.sendBeat.enrolment = s.enrolment := by
    unfold State.sendBeat
    split <;> rfl
  exact (forStrands_enrolment State.originStep_enrolment _).trans hsend

theorem State.blockBeat_coordinated (i : Nat) (acc : StrandId → Nat) (b : Block) (hs : s.coordinated) :
    (s.blockBeat i acc b).coordinated := by
  cases b with
  | sequencer => exact State.followBeat_coordinated i acc hs
  | arbiter => exact hs.keep (State.admissionPass_moves i s) (State.admissionPass_enrolment i hs.1)
  | inputMonitor => exact State.inputBeat_coordinated hs
  | changeCoordinator => exact State.changeBeat_coordinated hs
  | dipMonitor => exact State.dipBeat_coordinated hs
  | lineInterface => exact hs.keep (State.lineBeat_moves s) (State.lineBeat_enrolment s)

/-- A delivered beat, in any order of the blocks (R119). -/
theorem State.deliverBeat_coordinated (hs : s.coordinated) : s.deliverBeat.coordinated := by
  have blocks : ∀ (l : List Block) (u : State) i acc, u.coordinated →
      (l.foldl (State.blockBeat i acc) u).coordinated := fun l => by
    induction l with
    | nil => exact fun _ _ _ h => h
    | cons b l ih => exact fun u i acc h => ih _ i acc (State.blockBeat_coordinated i acc b h)
  exact blocks _ { s with beats := s.beats + 1, fresh := s.fresh + 1 } _ _ hs

/-! ## The beat unit -/

theorem State.clearFail_enrolment (s : State) : s.clearFail.enrolment = s.enrolment :=
  forStrands_enrolment (fun _ _ => State.enrolment_upd (Context.removeReason_enrolled .beat _)) { s with fail := false }

theorem State.clearFail_coordinated (hs : s.coordinated) : s.clearFail.coordinated :=
  State.coordinated.keep (s := { s with fail := false }) hs (State.clearFail_moves s) (State.clearFail_enrolment s)

theorem State.failover_coordinated (src : Source) (hs : s.coordinated) : (s.failover src).coordinated :=
  State.raise_coordinated _ _ _
    (State.coordinated.keep (s := { s with current := .localGen, fail := true, switchTo := none }) hs
      (State.addEverywhere_moves .beat _)
      (forStrands_enrolment (fun _ _ => State.enrolment_upd (Context.addReason_enrolled .beat _)) _))

theorem State.completeSwitch_coordinated (src : Source) (hs : s.coordinated) : (s.completeSwitch src).coordinated := by
  have hbeat : (State.deliverBeat { s with current := src }).coordinated :=
    State.deliverBeat_coordinated (s := { s with current := src }) hs
  unfold State.completeSwitch
  generalize State.deliverBeat { s with current := src } = u at hbeat ⊢
  dsimp only
  split
  · exact State.raise_coordinated _ _ _ (State.clearFail_coordinated (s := { u with switchTo := none }) hbeat)
  · exact State.raise_coordinated (s := { u with switchTo := none }) _ _ _ hbeat

theorem State.setMonitor_coordinated (src : Source) (m : Monitor) (hs : s.coordinated) : (s.setMonitor src m).coordinated := by
  cases src <;> exact hs

theorem State.sourceBeat_coordinated (src : Source) (n : Nat) (hs : s.coordinated) : (s.sourceBeat src n).coordinated := by
  have hm : ((s.setMonitor src ((s.monitor src).beat s.period n)).atTime n).coordinated :=
    State.setMonitor_coordinated src ((s.monitor src).beat s.period n) hs
  unfold State.sourceBeat
  split
  · exact hs
  · dsimp only
    split
    · refine State.deliverBeat_coordinated ?_
      split
      · exact hm
      · exact hm
    · split
      · exact State.completeSwitch_coordinated src hm
      · exact hm

theorem State.localBeat_coordinated (hs : s.coordinated) : s.localBeat.coordinated := by
  unfold State.localBeat
  split
  · exact hs
  · next n _ =>
    have h : (State.atTime { s with localNext := some (n + 1000 * s.period) } n).coordinated := hs
    dsimp only
    split
    · exact State.deliverBeat_coordinated h
    · split
      · exact State.completeSwitch_coordinated _ h
      · exact h

theorem State.sourceSilence_coordinated (src : Source) (hs : s.coordinated) : (s.sourceSilence src).coordinated := by
  have hm : ((s.setMonitor src (s.monitor src).silence).atTime ((s.monitor src).ref + 3000 * s.period)).coordinated :=
    State.setMonitor_coordinated src (s.monitor src).silence hs
  unfold State.sourceSilence
  dsimp only
  split
  · exact hs
  · split
    · exact State.failover_coordinated src hm
    · exact hm

/-! ## Frames of the owned slots -/

theorem State.sensorFrame_coordinated (k : StrandId) (f : Frame) (hs : s.coordinated) : (s.sensorFrame k f).coordinated := by
  have hsend : (s.send f).coordinated := hs
  unfold State.sensorFrame
  split
  · split
    · exact hsend
    · exact State.takeSensor_coordinated k _ hsend
  · exact hsend

theorem State.plantFrame_coordinated (f : Frame) (hs : s.coordinated) : (s.plantFrame f).coordinated := by
  have hsend : (s.send f).coordinated := hs
  unfold State.plantFrame
  split
  · split
    · exact hsend
    · exact State.takePlant_coordinated _ hsend
  · exact hsend

theorem State.takeClaim_coordinated (k : StrandId) (hs : s.coordinated) : (s.takeClaim k).state.coordinated := by
  have hmoves := State.takeClaim_moves k s
  unfold State.takeClaim at hmoves ⊢
  split
  · next h => exact State.grantClaim_coordinated k hs h
  · next h =>
    rw [if_neg h] at hmoves
    refine hs.keep hmoves ?_
    split
    · exact State.enrolment_upd rfl
    · rfl
    · rfl

theorem State.sendActuator_enrolment (k : StrandId) (f : Frame) (vs : List Word) (c : Word) (g : Bool) (s : State) :
    (s.sendActuator k f vs c g).enrolment = s.enrolment := by
  have paid : (s.upd k fun x =>
      { x with ctx := { x.ctx with releasePending := false }, claimDue := false }).enrolment = s.enrolment :=
    State.enrolment_upd rfl
  unfold State.sendActuator
  dsimp only
  split
  · rfl
  · exact paid

theorem State.actuatorFrame_coordinated (k : StrandId) (f : Frame) (hs : s.coordinated) : (s.actuatorFrame k f).coordinated := by
  have hobserved : ∀ o, (s.upd k (Strand.observe o)).coordinated := fun o =>
    hs.keep (State.moves_upd s k _ (Strand.Move.observe _ o).moves) (State.enrolment_upd rfl)
  have hsent : ∀ {u : State} vs c g, u.coordinated → (u.sendActuator k f vs c g).coordinated := fun vs c g hu =>
    hu.keep (State.sendActuator_moves k f vs c g _) (State.sendActuator_enrolment k f vs c g _)
  unfold State.actuatorFrame
  split
  · split
    · exact hs
    · dsimp only
      split
      · exact hsent _ _ _ (State.takeClaim_coordinated k (hobserved _))
      · exact hsent _ _ _ (hobserved _)
  · exact hs

/-- A blend step reaches a strand in HANDBACK alone, which is not enrolled (R135, R137). -/
theorem State.blendStep_enrolment (k : StrandId) (hs : s.strandsSound) : (s.blendStep k).enrolment = s.enrolment := by
  obtain ⟨hnear, hother, hsame⟩ := State.blendStep_near k s
  refine State.enrolment_of_runs hs (State.blendStep_moves k s) hnear.change fun j hj => ?_
  by_cases hk : j = k
  · rw [hk] at hj
    have hstate : (s.ctx k).state ≠ .handback := fun e =>
      absurd ((Context.idle_of_state e nofun nofun).symm.trans hj) Bool.false_ne_true
    rw [hsame hstate]
  · rw [State.ctx, hother j hk]
    rfl

end

end Sys2Proof.Machine

/-! Every request and every command, against the enrolled set (R91, R94, R100 to R102). -/

namespace Sys2Proof.Machine

section
variable {s t : State} {d : List Word} {k : StrandId} {index : Word} {fields : List Word}

/-! ## Requests that leave the enrolment alone -/

theorem trackBody_enrolment (hs : s.strandsSound) (h : trackBody k s = .ok (t, d)) : t.enrolment = s.enrolment := by
  unfold trackBody at h
  split at h
  · next hp => cases h; exact State.enrolment_upd_idle hs (Context.idle_of_state hp nofun nofun) rfl
  · cases h

theorem untrackBody_enrolment (hs : s.strandsSound) (h : untrackBody k s = .ok (t, d)) : t.enrolment = s.enrolment := by
  unfold untrackBody at h
  split at h
  · next hp => cases h; exact State.enrolment_upd_idle hs (Context.idle_of_state hp nofun nofun) rfl
  · cases h

/-- A run begins out of the enrolled set (R11). -/
theorem startBody_enrolment {p sh : Word} (hs : s.strandsSound) (h : startBody p sh k s = .ok (t, d)) :
    t.enrolment = s.enrolment := by
  obtain ⟨n, v, lim, hst, -, hlim, -, -, rfl⟩ := startBody_ok h
  rw [State.beginRun_eq k n _ v hlim]
  refine State.enrolment_upd_idle hs ?_ rfl
  rcases hst with e | e
  · exact Context.idle_of_state e nofun nofun
  · exact Context.idle_of_state e nofun nofun

theorem holdBody_enrolment (h : holdBody k s = .ok (t, d)) : t.enrolment = s.enrolment := by
  unfold holdBody at h
  split at h <;> cases h
  exact State.enrolment_upd (Context.addReason_enrolled .command _)

theorem releaseBody_enrolment (h : releaseBody k s = .ok (t, d)) : t.enrolment = s.enrolment := by
  unfold releaseBody at h
  split at h <;> cases h
  exact State.enrolment_upd (Context.removeReason_enrolled .command _)

theorem clearTripBody_enrolment (hs : s.strandsSound) (h : clearTripBody k s = .ok (t, d)) : t.enrolment = s.enrolment := by
  unfold clearTripBody at h
  split at h
  · next hp => cases h; exact State.enrolment_upd_idle hs (Context.idle_of_state hp nofun nofun) rfl
  · cases h

theorem readContextBody_enrolment (h : readContextBody k s = .ok (t, d)) : t.enrolment = s.enrolment := by
  cases h
  rfl

theorem coolPinBody_enrolment {w : Word} (h : coolPinBody w k s = .ok (t, d)) : t.enrolment = s.enrolment := by
  have pinned : ∀ o, (s.upd k fun x => { x with pin := o }).enrolment = s.enrolment := fun o => State.enrolment_upd rfl
  unfold coolPinBody at h
  split at h
  · cases h
  · cases h; exact pinned none
  · split at h <;> cases h
    exact pinned _

/-- HANDBACK refuses an enrolled strand (R134). -/
theorem handbackBody_enrolment (h : handbackBody k s = .ok (t, d)) : t.enrolment = s.enrolment := by
  unfold handbackBody at h
  split at h
  · cases h
  · split at h
    · cases h
    · next he =>
      have hnone : (s.ctx k).enrolled = false := Bool.not_eq_true _ ▸ he
      cases h
      unfold State.leaveByHandback State.shadowReturn
      split
      · rw [State.enrolment_raise]
        exact State.enrolment_upd hnone.symm
      · exact State.enrolment_upd hnone.symm

theorem setArbiterBody_enrolment {m : Word} {pr : Vector Word 8} (h : setArbiterBody m pr s = .ok (t, d)) :
    t.enrolment = s.enrolment := by
  unfold setArbiterBody at h
  split at h
  · cases h
  · split at h
    · cases h
    · split at h <;> cases h
      rfl

theorem sourceSelectBody_enrolment {n keep : Word} (h : sourceSelectBody n keep s = .ok (t, d)) :
    t.enrolment = s.enrolment := by
  have kept : ∀ (b : Bool) (src : Source),
      (if b then s.setConfig fun c => { c with startSource := src } else s).enrolment = s.enrolment := fun b src => by
    split <;> rfl
  unfold sourceSelectBody at h
  split at h
  · cases h
  · split at h
    · split at h
      · cases h
      · dsimp only at h
        split at h <;> cases h <;> exact kept _ _
    · cases h

theorem sourceCancelBody_enrolment (h : sourceCancelBody s = .ok (t, d)) : t.enrolment = s.enrolment := by
  unfold sourceCancelBody at h
  split at h <;> cases h
  rfl

theorem sourceFreezeBody_enrolment (h : sourceFreezeBody s = .ok (t, d)) : t.enrolment = s.enrolment := by
  cases h
  rfl

theorem setBeatPeriodBody_enrolment {p : Word} {n : Nat} (h : setBeatPeriodBody p n s = .ok (t, d)) :
    t.enrolment = s.enrolment := by
  unfold setBeatPeriodBody at h
  split at h
  · cases h
  · split at h
    · cases h
    · split at h
      · cases h
      · split at h <;> cases h
        rfl

theorem failClearBody_enrolment (h : failClearBody s = .ok (t, d)) : t.enrolment = s.enrolment := by
  unfold failClearBody at h
  split at h <;> cases h
  split
  · exact State.clearFail_enrolment s
  · rfl

theorem setNodeBody_enrolment {n : Word} (h : setNodeBody n s = .ok (t, d)) : t.enrolment = s.enrolment := by
  unfold setNodeBody at h
  split at h
  · cases h
  · split at h
    · cases h
    · dsimp only at h
      split at h <;> cases h <;> rfl

theorem State.unmap_enrolment (l : List StrandId) (s : State) :
    (forStrands l (fun k s => s.upd k Strand.unmap) s).enrolment = s.enrolment :=
  forStrands_enrolment (fun _ _ => State.enrolment_upd rfl) s

theorem State.resetDip_enrolment (s : State) :
    { s with plantIn := {}, dip := .normal, dipCount := 0 }.enrolment = s.enrolment := rfl

theorem setSlotBaseBody_enrolment {w : Word} (h : setSlotBaseBody w s = .ok (t, d)) : t.enrolment = s.enrolment := by
  unfold setSlotBaseBody at h
  split at h
  · cases h
  · split at h
    · cases h
    · split at h <;> cases h
      exact (State.resetDip_enrolment _).trans (State.unmap_enrolment strandIds _)

theorem setStrandMaskBody_enrolment {w : Word} (h : setStrandMaskBody w s = .ok (t, d)) : t.enrolment = s.enrolment := by
  unfold setStrandMaskBody at h
  split at h
  · cases h
  · split at h
    · cases h
    · dsimp only at h
      split at h <;> cases h
      exact (forStrands_enrolment (fun _ _ => State.enrolment_upd rfl) _).trans (State.unmap_enrolment _ _)

theorem tableOpenBody_enrolment (h : tableOpenBody s = .ok (t, d)) : t.enrolment = s.enrolment := by
  unfold tableOpenBody at h
  split at h <;> cases h
  rfl

theorem tableCloseBody_enrolment (h : tableCloseBody s = .ok (t, d)) : t.enrolment = s.enrolment := by
  cases h
  rfl

/-- A TABLE_WRITE reaches the working image alone (R161). -/
theorem State.writeTable_enrolment {guarded inUse locked : Bool} {image : Option Image}
    (h : s.writeTable guarded inUse locked image = .ok (t, d)) : t.enrolment = s.enrolment := by
  obtain ⟨-, -, -, -, i, -, rfl⟩ := State.writeTable_ok h
  rfl

theorem writeSegmentBody_enrolment (h : writeSegmentBody index fields s = .ok (t, d)) : t.enrolment = s.enrolment := by
  unfold writeSegmentBody at h
  split at h <;> exact State.writeTable_enrolment h

theorem writeProfileBody_enrolment (h : writeProfileBody index fields s = .ok (t, d)) : t.enrolment = s.enrolment := by
  unfold writeProfileBody at h
  split at h <;> exact State.writeTable_enrolment h

theorem writeCoolingBody_enrolment (h : writeCoolingBody index fields s = .ok (t, d)) : t.enrolment = s.enrolment := by
  unfold writeCoolingBody at h
  split at h <;> exact State.writeTable_enrolment h

theorem tableReadBody_enrolment {kind : Word} (h : tableReadBody kind index s = .ok (t, d)) : t.enrolment = s.enrolment := by
  unfold tableReadBody at h
  split at h <;> cases h
  rfl

theorem commitBody_enrolment (h : commitBody s = .ok (t, d)) : t.enrolment = s.enrolment := by
  unfold commitBody at h
  split at h
  · cases h
  · split at h <;> cases h
    rfl

theorem protectSetBody_enrolment {r c l : Word} {key : KeyPos} (h : protectSetBody r c l key s = .ok (t, d)) :
    t.enrolment = s.enrolment := by
  unfold protectSetBody at h
  split at h
  · cases h
  · split at h
    · cases h
    · split at h
      · cases h
      · split at h <;> cases h
        rfl

theorem limitsLockBody_enrolment (h : limitsLockBody s = .ok (t, d)) : t.enrolment = s.enrolment := by
  unfold limitsLockBody at h
  split at h
  · cases h
  · split at h
    · cases h
    · split at h
      · cases h
      · split at h <;> cases h
        rfl

theorem alarmPopBody_enrolment {n : Word} (h : alarmPopBody n s = .ok (t, d)) : t.enrolment = s.enrolment := by
  unfold alarmPopBody at h
  split at h <;> cases h
  rfl

theorem countersReadBody_enrolment {n : Word} (h : countersReadBody n s = .ok (t, d)) : t.enrolment = s.enrolment := by
  have counted : ∀ (b : Bool) f, (if b then s.count f else s).enrolment = s.enrolment := fun b f => by
    split <;> rfl
  unfold countersReadBody at h
  split at h
  · cases h
  · dsimp only at h
    split at h <;> cases h <;> exact counted _ _

theorem watchBody_enrolment {n : Word} (h : watchBody n s = .ok (t, d)) : t.enrolment = s.enrolment := by
  unfold watchBody at h
  split at h
  · cases h; rfl
  · split at h <;> cases h
    rfl

/-! ## Requests that move the coordinator -/

/-- A begun change has its real runs enrolled, of which there is one (R94). -/
theorem changeBeginBody_changeSound (h : changeBeginBody s = .ok (t, d)) : t.changeSound := by
  rw [changeBeginBody_eq] at h
  split at h
  · cases h
  · split at h
    · cases h
    · split at h
      · cases h
      · next hruns =>
        cases h
        obtain ⟨k, hk⟩ := not_forall.mp hruns
        have hreal : (s.strand k).ctx.realRun = true := Bool.not_eq_false _ ▸ hk
        have hmark : (s.changeBegun.strand k).mark.isSome = true := by
          have hstrand := State.mapStrands_strand s (fun _ x => if x.ctx.realRun then s.joined x else x) k
          rw [State.changeBegun, State.strand_raise]
          refine (congrArg (fun x : Strand => x.mark.isSome) hstrand).trans ?_
          rw [if_pos hreal]
          rfl
        refine iff_of_false ?_ fun hnone => ?_
        · rw [State.changeBegun, State.raise_change]
          nofun
        · rw [(State.anyEnrolled_eq_false _).mp hnone k] at hmark
          cases hmark

theorem changeCancelBody_changeSound (h : changeCancelBody s = .ok (t, d)) : t.changeSound := by
  unfold changeCancelBody at h
  split at h <;> cases h
  · exact State.cancelLowering_changeSound s
  · exact State.releaseChange_changeSound s

theorem swapConfirmBody_changeSound (h : swapConfirmBody s = .ok (t, d)) : t.changeSound := by
  unfold swapConfirmBody at h
  split at h <;> cases h
  exact State.releaseChange_changeSound s

/-! ## The answer to a request -/

theorem State.answer_changeSound (code : Word) (q : ReqHead) {body : State → Answer}
    (h : ∀ t d, body s = .ok (t, d) → t.changeSound) (hs : s.changeSound) : (s.answer code q body).changeSound := by
  rcases State.answer_cases s code q body with ⟨-, e⟩ | ⟨-, -, e⟩ | ⟨-, -, ⟨r, -, e⟩ | ⟨t, d, hb, e⟩⟩ <;> rw [e]
  · exact hs
  · exact hs
  · exact hs
  · exact h t d hb

theorem State.answer_enrolment (code : Word) (q : ReqHead) {body : State → Answer}
    (h : ∀ t d, body s = .ok (t, d) → t.enrolment = s.enrolment) : (s.answer code q body).enrolment = s.enrolment := by
  rcases State.answer_cases s code q body with ⟨-, e⟩ | ⟨-, -, e⟩ | ⟨-, -, ⟨r, -, e⟩ | ⟨t, d, hb, e⟩⟩ <;> rw [e]
  · rfl
  · rfl
  · exact h t d hb

theorem State.answerSized_enrolment (code : Word) (q : ReqHead) (ok : Bool) {body : State → Answer}
    (h : ∀ t d, body s = .ok (t, d) → t.enrolment = s.enrolment) : (s.answerSized code q ok body).enrolment = s.enrolment := by
  unfold State.answerSized
  split
  · rfl
  · split
    · exact State.answer_enrolment code q h
    · rfl

theorem State.strandRequest_enrolment (code : Word) (q : ReqHead) (w : Word) {body : StrandId → State → Answer}
    (h : ∀ k t d, body k s = .ok (t, d) → t.enrolment = s.enrolment) :
    (s.answer code q (State.strandRequest w body)).enrolment = s.enrolment :=
  State.answer_enrolment code q fun t d hb => have ⟨k, _, hb⟩ := State.strandRequest_ok hb; h k t d hb

end

/-! ## The resets -/

theorem State.warmReset_changeSound (s : State) : s.warmReset.changeSound :=
  iff_of_true rfl ((State.anyEnrolled_eq_false _).mpr fun k => by rw [State.warmReset_strand]; rfl)

theorem State.powerOn_changeSound (s : State) : s.powerOn.changeSound :=
  iff_of_true rfl ((State.anyEnrolled_eq_false _).mpr fun k => by rw [State.powerOn_strand])

theorem State.endLoad_enrolment (n : Nat) (s : State) : (s.endLoad n).enrolment = s.enrolment :=
  State.enrolment_eq (State.endLoad_calm n s).change fun k => by rw [State.ctx, State.endLoad_strand]; rfl

/-! ## Requests, frames and rows -/

/-- A request keeps the enrolled set empty exactly while the coordinator is CLEAR. -/
theorem State.runRequest_changeSound (i : Instr) {s : State} (hs : s.coordinated) : (s.runRequest i).changeSound := by
  obtain ⟨hstrands, hchange⟩ := hs
  have hafter : (s.runRequest i).strandsSound :=
    (State.runRequest_effects i s).keeps (fun _ _ => State.Effect.strandsSound) hstrands
  have kept : (s.runRequest i).enrolment = s.enrolment → (s.runRequest i).changeSound :=
    State.coordinated.changeSound ⟨hstrands, hchange⟩ hafter
  cases i with
  | partReset q =>
    change State.changeSound (if s.isOwn q.origin then s else if s.loading then s.reply 22 q .busy []
      else (s.reply 22 q .ok []).warmReset)
    split
    · exact hchange
    · split
      · exact hchange
      · exact State.warmReset_changeSound _
  | changeBegin q => exact State.answer_changeSound _ _ (fun _ _ => changeBeginBody_changeSound) hchange
  | changeCancel q => exact State.answer_changeSound _ _ (fun _ _ => changeCancelBody_changeSound) hchange
  | swapConfirm q => exact State.answer_changeSound _ _ (fun _ _ => swapConfirmBody_changeSound) hchange
  | track q w => exact kept (State.strandRequest_enrolment _ _ w fun _ _ _ => trackBody_enrolment hstrands)
  | untrack q w => exact kept (State.strandRequest_enrolment _ _ w fun _ _ _ => untrackBody_enrolment hstrands)
  | start q w p sh => exact kept (State.strandRequest_enrolment _ _ w fun _ _ _ => startBody_enrolment hstrands)
  | hold q w => exact kept (State.strandRequest_enrolment _ _ w fun _ _ _ => holdBody_enrolment)
  | release q w => exact kept (State.strandRequest_enrolment _ _ w fun _ _ _ => releaseBody_enrolment)
  | clearTrip q w => exact kept (State.strandRequest_enrolment _ _ w fun _ _ _ => clearTripBody_enrolment hstrands)
  | readContext q w => exact kept (State.strandRequest_enrolment _ _ w fun _ _ _ => readContextBody_enrolment)
  | setArbiter q m pr => exact kept (State.answer_enrolment _ _ fun _ _ => setArbiterBody_enrolment)
  | coolPin q w t => exact kept (State.strandRequest_enrolment _ _ w fun _ _ _ => coolPinBody_enrolment)
  | sourceSelect q n keep => exact kept (State.answer_enrolment _ _ fun _ _ => sourceSelectBody_enrolment)
  | sourceCancel q => exact kept (State.answer_enrolment _ _ fun _ _ => sourceCancelBody_enrolment)
  | sourceFreeze q => exact kept (State.answer_enrolment _ _ fun _ _ => sourceFreezeBody_enrolment)
  | setBeatPeriod q p t => exact kept (State.answer_enrolment _ _ fun _ _ => setBeatPeriodBody_enrolment)
  | failClear q => exact kept (State.answer_enrolment _ _ fun _ _ => failClearBody_enrolment)
  | handback q w => exact kept (State.strandRequest_enrolment _ _ w fun _ _ _ => handbackBody_enrolment)
  | setNode q n => exact kept (State.answer_enrolment _ _ fun _ _ => setNodeBody_enrolment)
  | setSlotBase q b => exact kept (State.answer_enrolment _ _ fun _ _ => setSlotBaseBody_enrolment)
  | setStrandMask q m => exact kept (State.answer_enrolment _ _ fun _ _ => setStrandMaskBody_enrolment)
  | tableOpen q => exact kept (State.answer_enrolment _ _ fun _ _ => tableOpenBody_enrolment)
  | tableClose q => exact kept (State.answer_enrolment _ _ fun _ _ => tableCloseBody_enrolment)
  | tableWriteSegment q n fs => exact kept (State.answerSized_enrolment _ _ _ fun _ _ => writeSegmentBody_enrolment)
  | tableWriteProfile q n fs => exact kept (State.answerSized_enrolment _ _ _ fun _ _ => writeProfileBody_enrolment)
  | tableWriteCooling q n fs => exact kept (State.answerSized_enrolment _ _ _ fun _ _ => writeCoolingBody_enrolment)
  | tableWritePlant q n fs => exact kept (State.answerSized_enrolment _ _ _ fun _ _ => State.writeTable_enrolment)
  | tableWriteLimits q n fs => exact kept (State.answerSized_enrolment _ _ _ fun _ _ => State.writeTable_enrolment)
  | tableRead q kind n => exact kept (State.answer_enrolment _ _ fun _ _ => tableReadBody_enrolment)
  | commit q => exact kept (State.answer_enrolment _ _ fun _ _ => commitBody_enrolment)
  | protectSet q r c l key =>
    exact kept (State.answer_enrolment (s := { s with key }) _ _ fun _ _ => protectSetBody_enrolment)
  | limitsLock q => exact kept (State.answer_enrolment _ _ fun _ _ => limitsLockBody_enrolment)
  | alarmPop q n => exact kept (State.answer_enrolment _ _ fun _ _ => alarmPopBody_enrolment)
  | countersRead q fl => exact kept (State.answer_enrolment _ _ fun _ _ => countersReadBody_enrolment)
  | watch q w => exact kept (State.answer_enrolment _ _ fun _ _ => watchBody_enrolment)
  | _ => exact hchange

section
variable {s t : State}

theorem State.requestFrame_changeSound (f : Frame) (hs : s.coordinated) : (s.requestFrame f).changeSound := by
  unfold State.requestFrame
  split
  · exact hs.2
  · exact hs.2
  · exact State.runRequest_changeSound _ hs
  · exact State.answer_changeSound _ _ (fun _ _ h => (writeNoKindBody_refuses h).elim) hs.2

theorem State.receive_changeSound (f : Frame) (hs : s.coordinated) : (s.receive f).changeSound := by
  have hsend : (s.send f).coordinated := hs
  unfold State.receive
  split
  · exact hs.2
  · exact hs.2
  · exact (State.sourceBeat_coordinated _ _ hsend).2
  · exact (State.plantFrame_coordinated f hs).2
  · exact hs.2
  · exact (State.sensorFrame_coordinated _ f hs).2
  · exact (State.actuatorFrame_coordinated _ f hs).2
  · exact hs.2
  · exact State.requestFrame_changeSound f hs
  · exact hs.2

theorem execInputSilence_changeSound (i : InputId) (hs : s.coordinated) (h : execInputSilence i s = .next t) :
    t.changeSound := by
  cases h
  cases i with
  | level k => dsimp only; split; exacts [(State.sense_coordinated k _ _ hs).2, hs.2]
  | feedback k => dsimp only; split; exacts [(State.sense_coordinated k _ _ hs).2, hs.2]
  | plant => dsimp only; split; exacts [(State.setPlantInput_coordinated _ hs).2, hs.2]

theorem execInputClear_changeSound (i : InputId) (hs : s.coordinated) (h : execInputClear i s = .next t) : t.changeSound := by
  cases h
  cases i with
  | level k => dsimp only; split; exacts [(State.sense_coordinated k _ _ hs).2, hs.2]
  | feedback k => dsimp only; split; exacts [(State.sense_coordinated k _ _ hs).2, hs.2]
  | plant => dsimp only; split; exacts [(State.setPlantInput_coordinated _ hs).2, hs.2]

/-- Every command keeps the enrolled set empty exactly while the coordinator is CLEAR. -/
theorem exec_changeSound {c : Instr} (h : exec c s = .next t) (hs : s.coordinated) : t.changeSound := by
  have ht : t.strandsSound := (exec_effects h).keeps (fun _ _ => State.Effect.strandsSound) hs.1
  have kept : t.enrolment = s.enrolment → t.changeSound := hs.changeSound ht
  have stays : ∀ {p : Prop} [Decidable p] {u : State}, u.coordinated → (if p then u else s).changeSound := fun hu => by
    split
    · exact hu.2
    · exact hs.2
  have same : ∀ {p : Prop} [Decidable p] {u : State}, u.enrolment = s.enrolment →
      (if p then u else s).enrolment = s.enrolment := fun hu => by
    split
    · exact hu
    · rfl
  have received := fun f => State.receive_changeSound f hs
  cases hq : c.head with
  | some q =>
    rw [exec_request hq] at h
    cases h
    exact State.runRequest_changeSound c hs
  | none =>
    cases c with
    | powerOnReset => cases h; exact State.powerOn_changeSound s
    | startUpLoadDone n => cases h; exact kept (same (State.endLoad_enrolment n s))
    | warmReset => cases h; exact State.warmReset_changeSound s
    | commitDone =>
      cases h
      refine kept ?_
      split
      · exact State.enrolment_raise _ _ _ _
      · rfl
    | lockDone =>
      cases h
      refine kept ?_
      split
      · exact State.enrolment_raise _ _ _ _
      · rfl
    | unknownRequest f => cases h; split; exacts [State.requestFrame_changeSound f hs, received f]
    | badCheckFrame words =>
      cases h
      split
      · exact hs.2
      · next f _ => exact received f
    | ownFrameReturn f => cases h; split; exacts [hs.2, received f]
    | passThroughFrame f => cases h; split; exacts [hs.2, received f]
    | malformedFrame f => cases h; split; exacts [hs.2, received f]
    | beatFrame f n => cases h; split; exacts [(State.sourceBeat_coordinated (s := s.send f) _ n hs).2, received f]
    | pulseEdge n => cases h; exact (State.sourceBeat_coordinated .pulse n hs).2
    | localExpiry => cases h; exact (State.localBeat_coordinated hs).2
    | sourceSilent src => cases h; exact (State.sourceSilence_coordinated src hs).2
    | switchComplete n =>
      cases h
      split
      · exact hs.2
      · exact (State.localBeat_coordinated hs).2
      · split
        exacts [(State.sourceBeat_coordinated _ n hs).2, hs.2]
    | blendComplete k =>
      cases h
      refine kept ?_
      split
      exacts [same (State.blendStep_enrolment k hs.1), rfl]
    | starved k =>
      cases h
      refine kept (same ?_)
      rw [State.enrolment_raise]
      exact State.enrolment_upd rfl
    | deficit => cases h; exact kept (same (State.countDeficit_enrolment s))
    | inputSilence i => exact execInputSilence_changeSound i hs h
    | sensorSample f => cases h; split; exacts [(State.sensorFrame_coordinated _ f hs).2, received f]
    | levelFrozen k => cases h; exact stays (State.sense_coordinated k _ _ hs)
    | inputClear i => exact execInputClear_changeSound i hs h
    | levelTrip k => cases h; exact stays (State.tripAll_coordinated .level [k] hs)
    | plantSample f => cases h; split; exacts [(State.plantFrame_coordinated f hs).2, received f]
    | dipWindowExpiry => cases h; exact stays (State.dipBeat_coordinated hs)
    | loweringWindowExpiry => cases h; exact stays (State.changeBeat_coordinated hs)
    | swapWindowExpiry => cases h; exact stays (State.changeBeat_coordinated hs)
    | followTrip k =>
      cases h
      exact stays (State.tripAll_coordinated .follow [k]
        (hs.keep (State.countFollow_moves _ k s) (State.countFollow_enrolment _ k s)))
    | masterActuatorFrame f => cases h; split; exacts [(State.actuatorFrame_coordinated _ f hs).2, received f]
    | statusSlotFrame f => cases h; split; exacts [hs.2, received f]
    | originate k => cases h; exact kept (same (State.originStep_enrolment k s))
    | retiredNodeClear => cases h; exact kept (same rfl)
    | _ => cases hq

/-- Settles O55: every event that empties the enrolled set or begins a change moves the coordinator with it, and every other
leaves the enrolment alone. -/
theorem enrolledSetFollowsTheCoordinator : Obligations.EnrolledSetFollowsTheCoordinator := by
  intro s t hstrands hchange h
  unfold step at h
  split at h
  · cases h; exact hchange
  · exact exec_changeSound (s := { s with pending := _ }) h ⟨hstrands, hchange⟩

end

end Sys2Proof.Machine

/-! The requests to the Beat Unit (R123, R124, R126, R127, R129). -/

namespace Sys2Proof.Machine

/-! ## Operands and parameters -/

theorem sourceWord_eq (w : Word) : sourceWord w =
    if w.toNat = 0 then some .line else if w.toNat = 1 then some .pulse else if w.toNat = 2 then some .localGen else none := by
  simp only [sourceWord, ← BitVec.toNat_inj]
  rfl

/-- A source is read from exactly its code (R115). -/
theorem sourceWord_eq_some {w : Word} {src : Source} : sourceWord w = some src ↔ w.toNat = src.code := by
  rw [sourceWord_eq]
  cases src <;> split_ifs <;> simp [Source.code] <;> omega

theorem sourceWord_eq_none {w : Word} : sourceWord w = none ↔ 2 < w.toNat := by
  rw [sourceWord_eq]
  split_ifs <;> simp <;> omega

/-- A request that carries no parameters is read only where none follow its tag (R157). -/
theorem decodeRequest_bare {q : ReqHead} {n : Nat} {key : KeyPos} {code : Word} {i : Instr}
    (hnil : readRequest q n key code [] = .command i)
    (hcons : ∀ p ps, readRequest q n key code (p :: ps) = .wrongLength code q.tag) (ps : List Word) :
    decodeRequest q.origin n key (code :: q.tag :: ps) = .command i ↔ ps = [] := by
  cases ps with
  | nil => exact iff_of_true hnil rfl
  | cons p ps => exact iff_of_false (fun h => by cases (hcons p ps).symm.trans h) (List.cons_ne_nil p ps)

/-! ## SOURCE_SELECT and SOURCE_FREEZE -/

section
variable {s : State} {n keep : Word} {src : Source}

theorem sourceSelectBody_range (hf : s.freeze = false) (h : 2 < n.toNat ∨ 1 < keep.toNat) :
    sourceSelectBody n keep s = .error .range := by
  unfold sourceSelectBody
  rw [if_neg (by simp [hf])]
  rcases h with h | h
  · rw [sourceWord_eq_none.mpr h]
  · rw [flagWord_eq_none.mpr h]
    cases sourceWord n <;> rfl

/-- SOURCE_SELECT with both operands in range (R124). -/
theorem sourceSelectBody_named (hf : s.freeze = false) (hn : n.toNat = src.code) (hk : keep.toNat ≤ 1) :
    sourceSelectBody n keep s =
      if keep ≠ 0 ∧ s.op ≠ .idle then .error .busy
      else
        let t := if keep ≠ 0 then s.setConfig fun c => { c with startSource := src } else s
        if src = s.current then .ok (t, [1]) else .ok ({ t with switchTo := some src }, [0]) := by
  unfold sourceSelectBody
  rw [if_neg (by simp [hf]), sourceWord_eq_some.mpr hn, flagWord_eq_some.mpr ⟨hk, rfl⟩]
  simp only [decide_eq_true_eq, State.busy_iff]

theorem sourceSelectBody_busy (hf : s.freeze = false) (hn : n.toNat ≤ 2) (hk : keep = 1) (hb : s.op ≠ .idle) :
    sourceSelectBody n keep s = .error .busy := by
  obtain ⟨src, hs⟩ := Option.ne_none_iff_exists'.mp fun h : sourceWord n = none => by
    have := sourceWord_eq_none.mp h
    omega
  subst hk
  rw [sourceSelectBody_named hf (sourceWord_eq_some.mp hs) (by decide), if_pos ⟨by decide, hb⟩]

end

/-- Settles O26: the checks of SOURCE_SELECT in their order, and the flag that SOURCE_FREEZE sets. -/
theorem sourceSelectAndFreeze : Obligations.SourceSelectAndFreeze := by
  intro s q ha
  refine ⟨congrArg Host.Outcome.next (State.answer_ok ha rfl), ?_⟩
  intro n keep go
  have refused : ∀ {r}, sourceSelectBody n keep s = .error r → go = .next (s.reply 13 q r []) := fun h =>
    congrArg Host.Outcome.next (State.answer_error ha h)
  have accepted : ∀ {t d}, sourceSelectBody n keep s = .ok (t, d) → go = .next (t.reply 13 q .ok d) := fun h =>
    congrArg Host.Outcome.next (State.answer_ok ha h)
  refine ⟨fun hf => refused (if_pos hf), fun hf h => refused (sourceSelectBody_range hf h),
    fun hf hn hk hb => refused (sourceSelectBody_busy hf hn hk hb), fun src hn hf =>
      ⟨fun hk hc => accepted ?_, fun hk hc => accepted ?_, fun hk hi hc => accepted ?_, fun hk hi hc => accepted ?_⟩⟩
  all_goals subst hk; rw [sourceSelectBody_named hf hn (by decide)]
  · simp [hc]
  · simp [hc]
  · simp [hi, hc]
  · simp [hi, hc]

/-! ## SOURCE_CANCEL -/

/-- Settles O27: the payload without parameters, and the owning rule by the pending target. -/
theorem sourceCancelClearsTheTarget : Obligations.SourceCancelClearsTheTarget := by
  intro s q ha
  refine ⟨fun _ _ ps => decodeRequest_bare rfl (fun _ _ => rfl) ps, fun src h => ?_, fun h => ?_⟩
  · exact congrArg Host.Outcome.next (State.answer_ok ha (by rw [sourceCancelBody, h]))
  · exact congrArg Host.Outcome.next (State.answer_error ha (by rw [sourceCancelBody, h]))

/-! ## SET_BEAT_PERIOD -/

theorem State.anyDriving_iff {s : State} : s.anyDriving = true ↔ ∃ k, (s.ctx k).driving = true := strandIds_any

/-- SET_BEAT_PERIOD, its checks in their order (R129). -/
theorem setBeatPeriodBody_eq (p : Word) (t : Nat) (s : State) : setBeatPeriodBody p t s =
    if s.op ≠ .idle then .error .busy
    else if (∃ k, (s.ctx k).driving = true) ∨ s.switchTo ≠ none then .error .state
    else if p.toNat < 4 ∨ 40 < p.toNat then .error .range
    else .ok ({ s.setConfig fun c => { c with period := p.toNat } with
      now := max s.now t, localNext := some (t + 1000 * p.toNat)
      lineMon := Monitor.restart t, pulseMon := Monitor.restart t }, []) := by
  unfold setBeatPeriodBody
  simp only [State.busy_iff, State.anyDriving_iff, Option.isSome_iff_ne_none, ite_or]
  refine ite_congr rfl (fun _ => rfl) fun _ => ite_congr rfl (fun _ => rfl) fun _ => ite_congr rfl (fun _ => rfl) fun _ => ?_
  by_cases hp : p.toNat < 4 ∨ 40 < p.toNat
  · rw [rangeWord_eq_none.mpr hp, ← ite_or, if_pos hp]
  · rw [rangeWord_eq_some.mpr ⟨rfl, by omega, by omega⟩, ← ite_or, if_neg hp]

/-- Settles O28: the checks of SET_BEAT_PERIOD one after another. -/
theorem setBeatPeriodRestartsTheSources : Obligations.SetBeatPeriodRestartsTheSources := by
  intro s q p t ha go fresh
  have idle : (∀ k, (s.ctx k).driving = false) → s.switchTo = none →
      ¬ ((∃ k, (s.ctx k).driving = true) ∨ s.switchTo ≠ none) := by
    rintro hd hw (⟨k, hk⟩ | h)
    · exact Bool.false_ne_true ((hd k).symm.trans hk)
    · exact h hw
  have refused : ∀ {r}, setBeatPeriodBody p t s = .error r → go = .next (s.reply 16 q r []) := fun h =>
    congrArg Host.Outcome.next (State.answer_error ha h)
  rw [setBeatPeriodBody_eq] at refused
  refine ⟨fun hb => refused (if_pos hb), fun hi h => refused ?_, fun hi hd hw hp => refused ?_, fun hi hd hw hlo hhi => ?_⟩
  · rw [if_neg (not_not.mpr hi), if_pos h]
  · rw [if_neg (not_not.mpr hi), if_neg (idle hd hw), if_pos hp]
  · refine congrArg Host.Outcome.next (State.answer_ok ha ?_)
    rw [setBeatPeriodBody_eq, if_neg (not_not.mpr hi), if_neg (idle hd hw), if_neg (by omega)]
    rfl

/-! ## FAIL_CLEAR -/

/-- The end of the fail flag, as one change of the strands (R122). -/
theorem State.clearFail_eq (s : State) : s.clearFail
    = { s.mapStrands (fun _ x => { x with ctx := x.ctx.removeReason .beat }) with fail := false } :=
  forStrands_upd_all (fun _ x => { x with ctx := x.ctx.removeReason .beat }) { s with fail := false }

/-- Settles O29: the payload without parameters, and the owning rule by the current source and the fail flag. -/
theorem failClearEndsTheBeatHolds : Obligations.FailClearEndsTheBeatHolds := by
  intro s q ha go
  refine ⟨fun _ _ ps => decodeRequest_bare rfl (fun _ _ => rfl) ps, fun hc hf => ?_, fun hc hf => ?_, fun hc => ?_⟩
  · exact congrArg Host.Outcome.next (State.answer_ok ha (by rw [failClearBody, if_pos hc, if_pos hf, State.clearFail_eq]))
  · exact congrArg Host.Outcome.next (State.answer_ok ha (by rw [failClearBody, if_pos hc, if_neg (by simp [hf])]))
  · exact congrArg Host.Outcome.next (State.answer_error ha (if_neg hc))

end Sys2Proof.Machine

/-! The beats of the sources, their lock monitors, switching and failover (R116 to R122, R125). -/

namespace Sys2Proof.Machine

/-! ## Lock monitors -/

section
variable {m : Monitor} {period t : Nat}

/-- In tolerance is between seven and nine eighths of P, P in ms and times in microseconds (R117). -/
theorem Monitor.inTolerance_iff : m.inTolerance period t = true
    ↔ 7 * 1000 * period ≤ 8 * (t - m.ref) ∧ 8 * (t - m.ref) ≤ 9 * 1000 * period := by
  simp only [Monitor.inTolerance, decide_eq_true_eq]
  omega

/-- A first beat, or one out of tolerance, is a reference alone (R117). -/
theorem Monitor.beat_unsteady (h : m.hasLast = false ∨ m.inTolerance period t = false) :
    m.beat period t = { ref := t, hasLast := true } :=
  if_neg (by rcases h with h | h <;> simp [h])

/-- A beat in tolerance at a LOCKED monitor (R117). -/
theorem Monitor.beat_locked (hl : m.hasLast = true) (ht : m.inTolerance period t = true) (hk : m.locked = true) :
    m.beat period t = { locked := true, run := 8, ref := t, hasLast := true } :=
  (if_pos ⟨hl, ht⟩).trans (if_pos hk)

/-- A beat in tolerance at an UNLOCKED monitor (R117). -/
theorem Monitor.beat_unlocked (hl : m.hasLast = true) (ht : m.inTolerance period t = true) (hk : m.locked = false) :
    m.beat period t = { locked := 8 ≤ m.run + 1, run := min 8 (m.run + 1), ref := t, hasLast := true } :=
  (if_pos ⟨hl, ht⟩).trans (if_neg (ne_true_of_eq_false hk))

/-- Every beat is the last beat of its monitor, and ends a silence (R117, R118). -/
theorem Monitor.beat_reference (m : Monitor) (period t : Nat) :
    (m.beat period t).ref = t ∧ (m.beat period t).hasLast = true ∧ (m.beat period t).silent = false := by
  unfold Monitor.beat
  split_ifs <;> exact ⟨rfl, rfl, rfl⟩

end

/-- Settles O30: the reference that every beat leaves, and the run count by what the beat finds. -/
theorem lockMonitorTakesABeat : Obligations.LockMonitorTakesABeat := by
  intro m period t steady m'
  have tol : steady → m.inTolerance period t = true := Monitor.inTolerance_iff.mpr
  obtain ⟨href, hlast, hsilent⟩ := Monitor.beat_reference m period t
  refine ⟨href, hlast, hsilent, fun hl => ?_, fun _ hs => ?_, fun hl hs hk => ?_, fun hl hs hk hr => ?_, fun hl hs hk hr => ?_⟩
  · simp [m', Monitor.beat_unsteady (.inl hl)]
  · have unsteady : m.inTolerance period t = false := Bool.eq_false_iff.mpr fun e => hs (Monitor.inTolerance_iff.mp e)
    simp [m', Monitor.beat_unsteady (.inr unsteady)]
  · simp [m', Monitor.beat_locked hl (tol hs) hk]
  · simp only [m', Monitor.beat_unlocked hl (tol hs) hk, decide_eq_false_iff_not]
    omega
  · simp [m', Monitor.beat_unlocked hl (tol hs) hk, hr]

/-! ## Delivery -/

/-- The order in which the blocks take the next delivered beat (R119; log entry 4). -/
def State.blockOrder (s : State) : List Block := orderBy (Config.blockRank s.fresh) beatBlocks

theorem State.blockOrder_perm (s : State) : s.blockOrder.Perm beatBlocks := orderBy_perm _ _

theorem State.deliverBeat_eq (s : State) :
    s.deliverBeat = { s with beats := s.beats + 1, fresh := s.fresh + 1 }.blocksBeat s.fresh s.blockOrder := rfl

/-! ## A beat of an external source -/

/-- The monitor of a source has taken a beat of it at time t. -/
def State.heard (s : State) (src : Source) (t : Nat) : State :=
  (s.setMonitor src ((s.monitor src).beat s.period t)).atTime t

theorem State.heard_line (s : State) (t : Nat) :
    s.heard .line t = { s with lineMon := s.lineMon.beat s.period t, now := max s.now t } := rfl

theorem State.heard_pulse (s : State) (t : Nat) :
    s.heard .pulse t = { s with pulseMon := s.pulseMon.beat s.period t, now := max s.now t } := rfl

section
variable {s : State} {src : Source} {t : Nat}

/-- No source delivers a beat during the start-up load (R116). -/
theorem State.sourceBeat_loading (hl : s.loading = true) : s.sourceBeat src t = s := if_pos hl

theorem State.sourceBeat_running (hl : s.loading = false) : s.sourceBeat src t =
    if s.current = src then
      (if (s.monitor src).hasLast ∧ ¬ (s.monitor src).inTolerance s.period t then
        (s.heard src t).count fun c => { c with irregularBeats := satInc c.irregularBeats }
      else s.heard src t).deliverBeat
    else if s.switchTo = some src ∧ (s.monitor src).locked ∧ ((s.monitor src).beat s.period t).locked then
      (s.heard src t).completeSwitch src
    else s.heard src t :=
  if_neg (ne_true_of_eq_false hl)

/-- A beat that is neither of the current source nor completes a switch reaches its monitor alone (R117, R125). -/
theorem State.sourceBeat_heard (hl : s.loading = false) (hc : s.current ≠ src)
    (h : s.switchTo ≠ some src ∨ (s.monitor src).locked = false ∨ ((s.monitor src).beat s.period t).locked = false) :
    s.sourceBeat src t = s.heard src t := by
  rw [State.sourceBeat_running hl, if_neg hc, if_neg]
  rintro ⟨hw, hk, hk'⟩
  simp [hw, hk, hk'] at h

/-- A beat of the pending source that finds and leaves its monitor LOCKED completes the switch (R125). -/
theorem State.sourceBeat_completes (hl : s.loading = false) (hc : s.current ≠ src) (hw : s.switchTo = some src)
    (hk : (s.monitor src).locked = true) (hk' : ((s.monitor src).beat s.period t).locked = true) :
    s.sourceBeat src t = (s.heard src t).completeSwitch src := by
  rw [State.sourceBeat_running hl, if_neg hc, if_pos ⟨hw, hk, hk'⟩]

/-- The counters after a beat of the current source that found its monitor as m (R120). -/
def State.countIrregular (s : State) (m : Monitor) (t : Nat) : Counters :=
  if m.hasLast && !m.inTolerance s.period t then
    { s.counters with irregularBeats := min (s.counters.irregularBeats + 1) 65535 }
  else s.counters

/-- A beat of the current source is counted when it is irregular, and delivered (R119, R120). -/
theorem State.sourceBeat_current (hl : s.loading = false) (hc : s.current = src) :
    s.sourceBeat src t
      = State.deliverBeat { s.heard src t with counters := s.countIrregular (s.monitor src) t } := by
  have counters : (s.heard src t).counters = s.counters := by cases src <;> rfl
  rw [State.sourceBeat_running hl, if_pos hc]
  simp only [State.countIrregular, Bool.and_eq_true, Bool.not_eq_true', Bool.not_eq_true, ← counters]
  split_ifs <;> rfl

/-- BEAT_FRAME with a BEAT frame of another node: the frame leaves, and is a beat of LINE (R116, R148). -/
theorem exec_beatFrame {f : Frame} (h : s.frameUse f = .beat) :
    exec (.beatFrame f t) s = .next ((s.send f).sourceBeat .line t) := by
  change execBeatFrame f t s = _
  rw [execBeatFrame, h]

end

/-- Settles O31: each row as a beat of its source, by the load and by what the source is to the part. -/
theorem externalBeatsReachTheirMonitor : Obligations.ExternalBeatsReachTheirMonitor := by
  intro s f t line pulse irregular counted
  refine ⟨fun i order => ?_, fun hf hl => ?_, fun hl => ?_, fun hf hl hc hw => ?_, fun hl hc hw => ?_, fun hf hl hc => ?_,
    fun hl hc => ?_⟩
  · refine congrArg (fun take => order.foldl take s) (funext fun u => funext fun block => ?_)
    cases block <;> rfl
  · rw [exec_beatFrame hf, State.sourceBeat_loading (s := s.send f) hl]
  · exact congrArg Host.Outcome.next (State.sourceBeat_loading hl)
  · rw [exec_beatFrame hf, State.sourceBeat_heard (s := s.send f) hl hc hw]
    rfl
  · exact congrArg Host.Outcome.next (State.sourceBeat_heard hl hc hw)
  · refine ⟨s.blockOrder, s.blockOrder_perm, ?_⟩
    rw [exec_beatFrame hf, State.sourceBeat_current (s := s.send f) hl hc, State.deliverBeat_eq, State.heard_line]
    rfl
  · refine ⟨s.blockOrder, s.blockOrder_perm, congrArg Host.Outcome.next ?_⟩
    rw [State.sourceBeat_current hl hc, State.deliverBeat_eq, State.heard_pulse]
    rfl

/-! ## LOCAL and the switches -/

/-- The end of a completed switch to an external source: no pending target, the fail flag cleared, SWITCH_DONE (R122, R125). -/
theorem State.completeSwitch_external (s : State) {src : Source} (h : src ≠ .localGen) :
    s.completeSwitch src =
      (let u : State := { State.deliverBeat { s with current := src } with switchTo := none }
       if u.fail then { u.mapStrands (fun _ x => { x with ctx := x.ctx.removeReason .beat }) with fail := false } else u).raise
        .switchDone none src.code := by
  unfold State.completeSwitch
  simp only [State.clearFail_eq, ne_eq, h, not_false_eq_true, true_and]

/-- LOCAL completes a switch without ending the fail flag (R122, R125). -/
theorem State.completeSwitch_local (s : State) :
    s.completeSwitch .localGen
      = State.raise { State.deliverBeat { s with current := .localGen } with switchTo := none } .switchDone none 2 :=
  congrArg (State.raise · .switchDone none 2) (if_neg fun h => h.1 rfl)

/-- The local generator has expired at the time n it was due, and is due again a period later (R116). -/
def State.ticked (s : State) (n : Nat) : State :=
  { s with localNext := some (n + 1000 * s.period), now := max s.now n }

section
variable {s : State} {n t : Nat} {src : Source}

/-- An expiry of the local generator (R116, R119, R125). -/
theorem State.localBeat_due (h : s.localNext = some n) : s.localBeat =
    if s.current = .localGen then (s.ticked n).deliverBeat
    else if s.switchTo = some .localGen then (s.ticked n).completeSwitch .localGen
    else s.ticked n := by
  unfold State.localBeat
  rw [h]
  rfl

/-- SWITCH_COMPLETE with LOCAL pending is the next expiry (R125). -/
theorem exec_switchComplete_local (hw : s.switchTo = some .localGen) : exec (.switchComplete t) s = .next s.localBeat := by
  change execSwitchComplete t s = _
  rw [execSwitchComplete, hw]

/-- SWITCH_COMPLETE with an external source pending, where its monitor is and stays LOCKED, is its beat (R125). -/
theorem exec_switchComplete_external (hsrc : src ≠ .localGen) (hw : s.switchTo = some src)
    (hk : (s.monitor src).locked = true) (hk' : ((s.monitor src).beat s.period t).locked = true) :
    exec (.switchComplete t) s = .next (s.sourceBeat src t) := by
  change execSwitchComplete t s = _
  rw [execSwitchComplete, hw]
  cases src with
  | line => exact congrArg Host.Outcome.next (if_pos ⟨hk, hk'⟩)
  | pulse => exact congrArg Host.Outcome.next (if_pos ⟨hk, hk'⟩)
  | localGen => exact absurd rfl hsrc

end

/-- Settles O32: the expiry by what LOCAL is to the part, and the completing beat of each source, by either of its rows. -/
theorem localBeatsAndSwitches : Obligations.LocalBeatsAndSwitches := by
  intro s f n t ticked beaten unfailed lineDone pulseDone localDone
  refine ⟨fun hn hc hw => ?_, fun hn hc => ⟨s.blockOrder, s.blockOrder_perm, ?_⟩,
    fun hn hc hw => ⟨s.blockOrder, s.blockOrder_perm, ?_⟩, fun hl hc hw hk hk' => ⟨s.blockOrder, s.blockOrder_perm, ?_⟩,
    fun hl hc hw hk hk' => ⟨s.blockOrder, s.blockOrder_perm, ?_⟩⟩
  · refine congrArg Host.Outcome.next ?_
    rw [State.localBeat_due hn, if_neg hc, if_neg hw]
    rfl
  · refine congrArg Host.Outcome.next ?_
    rw [State.localBeat_due hn, if_pos hc, State.deliverBeat_eq]
    rfl
  · have done : s.localBeat = localDone s.blockOrder := by
      rw [State.localBeat_due hn, if_neg hc, if_pos hw, State.completeSwitch_local]
      rfl
    exact ⟨(exec_switchComplete_local hw).trans (congrArg _ done), congrArg Host.Outcome.next done⟩
  · have own : s.sourceBeat .line t = lineDone s s.blockOrder := by
      rw [State.sourceBeat_completes hl hc hw hk hk', State.completeSwitch_external _ (by decide), State.heard_line]
      rfl
    have forwarded : (s.send f).sourceBeat .line t = lineDone (s.send f) s.blockOrder := by
      rw [State.sourceBeat_completes (s := s.send f) hl hc hw hk hk', State.completeSwitch_external _ (by decide),
        State.heard_line]
      rfl
    exact ⟨(exec_switchComplete_external (src := .line) (by decide) hw hk hk').trans (congrArg Host.Outcome.next own),
      fun hf => (exec_beatFrame hf).trans (congrArg Host.Outcome.next forwarded)⟩
  · have done : s.sourceBeat .pulse t = pulseDone s.blockOrder := by
      rw [State.sourceBeat_completes hl hc hw hk hk', State.completeSwitch_external _ (by decide), State.heard_pulse]
      rfl
    exact ⟨(exec_switchComplete_external (src := .pulse) (by decide) hw hk hk').trans (congrArg Host.Outcome.next done),
      congrArg Host.Outcome.next done⟩

/-! ## Silence -/

/-- The loss of the current source, with BEAT added as one change of the strands (R121, R122). -/
theorem State.failover_eq (s : State) (src : Source) :
    s.failover src = State.raise { s.mapStrands (fun _ x => { x with ctx := x.ctx.addReason .beat }) with
      current := .localGen, fail := true, switchTo := none } .beatFail none src.code :=
  congrArg (State.raise · .beatFail none src.code) (forStrands_upd_all (fun _ x => { x with ctx := x.ctx.addReason .beat }) _)

/-- The monitor of a source has noticed its silence, 3P after its last beat (R118). -/
def State.unheard (s : State) (src : Source) : State :=
  (s.setMonitor src (s.monitor src).silence).atTime ((s.monitor src).ref + 3000 * s.period)

/-- SOURCE_SILENT at an external source that was not silent (R118, R121). -/
theorem exec_sourceSilent {s : State} {src : Source} (hl : s.loading = false) (hsrc : src ≠ .localGen)
    (hm : (s.monitor src).silent = false) :
    exec (.sourceSilent src) s = .next (if s.current = src then (s.unheard src).failover src else s.unheard src) :=
  congrArg Host.Outcome.next (if_neg (by simp [hl, hsrc, hm]))

/-- Settles O33: the silence of each external source, by whether it is the current one. -/
theorem silentSourceFailsOver : Obligations.SilentSourceFailsOver := by
  intro s hl quiet lineLost pulseLost failed
  refine ⟨fun hm hc => ?_, fun hm hc => ?_, fun hm hc => ?_, fun hm hc => ?_⟩
  · rw [exec_sourceSilent (src := .line) hl (by decide) hm, if_neg hc]
    rfl
  · rw [exec_sourceSilent (src := .line) hl (by decide) hm, if_pos hc, State.failover_eq]
    rfl
  · rw [exec_sourceSilent (src := .pulse) hl (by decide) hm, if_neg hc]
    rfl
  · rw [exec_sourceSilent (src := .pulse) hl (by decide) hm, if_pos hc, State.failover_eq]
    rfl

end Sys2Proof.Machine

/-! HANDBACK, the blend step by step, and its end (R133 to R137, R141, R146). -/

namespace Sys2Proof.Machine

/-! ## HANDBACK -/

section
variable {s : State} {k : StrandId}

theorem handbackBody_refuses (h : (s.ctx k).running = false ∨ (s.ctx k).enrolled = true) :
    handbackBody k s = .error .state := by
  unfold handbackBody
  rcases h with h | h <;> simp [h]

theorem handbackBody_accepts (hr : (s.ctx k).running = true) (he : (s.ctx k).enrolled = false) :
    handbackBody k s = .ok (s.leaveByHandback k, []) := by
  simp [handbackBody, hr, he]

/-- A real run enters HANDBACK (R133). -/
theorem State.leaveByHandback_real (h : (s.ctx k).shadow = false) :
    s.leaveByHandback k = s.upd k (Strand.enterHandback s.plant.blendBeats) := if_neg (by simp [h])

/-- A shadow run returns to TRACKING (R146). -/
theorem State.leaveByHandback_shadow (h : (s.ctx k).shadow = true) : s.leaveByHandback k = s.shadowReturn k := if_pos h

end

/-! ## The values of a blend -/

section
variable (v d k n : Nat)

/-- A blend upwards rounds down (R135). -/
theorem blendValue_up : blendValue v (v + d) k n = v + d * k / n := by
  have hdiff : ((v + d : Nat) : Int) - v = d := by omega
  unfold blendValue
  rw [hdiff, ← Int.natCast_mul, ← Int.ofNat_tdiv, ← Int.natCast_add, Int.toNat_natCast]

/-- A blend downwards rounds up (R135). -/
theorem blendValue_down : blendValue (v + d) v k n = v + d - d * k / n := by
  have hdiff : (v : Int) - ((v + d : Nat) : Int) = -d := by omega
  unfold blendValue
  rw [hdiff, Int.neg_mul, Int.neg_tdiv, ← Int.natCast_mul, ← Int.ofNat_tdiv]
  omega

end

section
variable (start target : Nat) {k n : Nat}

/-- A blend goes up or down by the difference of its two values. -/
theorem blend_up_or_down : (∃ d, target = start + d) ∨ ∃ d, start = target + d :=
  (Nat.le_total start target).imp Nat.exists_eq_add_of_le Nat.exists_eq_add_of_le

/-- A blended value lies between start and target (R135). -/
theorem blendValue_between (hk : k ≤ n) :
    min start target ≤ blendValue start target k n ∧ blendValue start target k n ≤ max start target := by
  have fraction : ∀ d, d * k / n ≤ d := fun d =>
    Nat.div_le_of_le_mul (by rw [Nat.mul_comm n d]; exact Nat.mul_le_mul_left d hk)
  rcases blend_up_or_down start target with ⟨d, rfl⟩ | ⟨d, rfl⟩
  · rw [blendValue_up]
    have h := fraction d
    generalize d * k / n = q at h ⊢
    omega
  · rw [blendValue_down]
    have h := fraction d
    generalize d * k / n = q at h ⊢
    omega

theorem blendValue_zero : blendValue start target 0 n = start := by
  simp [blendValue]

theorem blendValue_full (hn : 0 < n) : blendValue start target n n = target := by
  rcases blend_up_or_down start target with ⟨d, rfl⟩ | ⟨d, rfl⟩
  · rw [blendValue_up, Nat.mul_div_cancel d hn]
  · rw [blendValue_down, Nat.mul_div_cancel d hn, Nat.add_sub_cancel]

end

/-! ## The blend step -/

/-- The records of a strand after a blend that leaves it TRACKING (R137, R141). -/
def Strand.blendEnded (claim : Bool) (x : Strand) : Strand := { x.enterTracking with claimDue := x.claimDue || claim }

/-- The limits alone fix what a blend step grants (R136). -/
theorem State.blendGrant_congr {s t : State} (h : t.lim = s.lim) : t.blendGrant = s.blendGrant := by
  unfold State.blendGrant State.blendSpeedTarget State.blendFlowTargets
  rw [h]

theorem State.completeBlend_strand (s : State) (k : StrandId) (claim : Bool) :
    (s.completeBlend k claim).strand k = (s.strand k).blendEnded claim := by
  unfold State.completeBlend
  dsimp only
  split
  · rw [State.strand_raise, State.strand_raise, State.strand_upd_same]
    rfl
  · rw [State.strand_raise, State.strand_upd_same]
    rfl

section
variable {s : State} {k : StrandId} {b : Handback}

/-- The last step of a blend completes it; the grant of that step goes with the record (R137). -/
theorem State.blendStep_last (hs : (s.ctx k).state = .handback) (hb : (s.strand k).blend = some b) (hk : b.k + 1 = b.n) :
    s.blendStep k = s.completeBlend k b.claim := by
  unfold State.blendStep
  rw [hs, hb]
  dsimp only
  rw [if_pos hk]
  unfold State.completeBlend
  rw [State.upd_upd]
  rfl

/-- Every other step of a blend moves its count and the grant (R135). -/
theorem State.blendStep_between (hs : (s.ctx k).state = .handback) (hb : (s.strand k).blend = some b) (hk : b.k + 1 ≠ b.n) :
    s.blendStep k
      = s.upd k fun x => { x with blend := some { b with k := b.k + 1 }, grant := s.blendGrant x b (b.k + 1) } := by
  unfold State.blendStep
  rw [hs, hb]
  exact if_neg hk

end

/-! ## A blending strand at a pass -/

section
variable {s : State} {k : StrandId} (i : Nat)

/-- The blend steps of a pass make of each strand what its own blend step does (R61, R137). -/
theorem State.passBlended_blendStep (s : State) (k : StrandId) :
    ∃ t, State.near { s with budget := s.formBudget } t ∧ t.strand k = s.strand k
      ∧ (s.passBlended i).strand k = (t.blendStep k).strand k :=
  State.blendStep_alone.strand_of_mem (orderBy_nodup (Config.strandRank i .blendSteps))
    ((mem_orderBy _ _ _).mpr (mem_strandIds k)) { s with budget := s.formBudget }

theorem Context.countDwell_idle {c : Context} (h : c.running = false) : c.countDwell = c :=
  if_neg fun hc => ne_true_of_eq_false h ((Context.running_iff c).mpr (.inl hc.1))

/-- A strand that does not run once the blend steps are taken keeps, through the rest of the pass, what they left it. -/
theorem State.admissionPass_idle (h : ((s.passBlended i).ctx k).running = false) :
    (s.admissionPass i).strand k = (s.passBlended i).strand k := by
  have hdwelt : (s.passDwelt i).strand k = (s.passBlended i).strand k := by
    have hctx : ((s.passBlended i).strand k).ctx.countDwell = ((s.passBlended i).strand k).ctx := Context.countDwell_idle h
    rw [State.passDwelt_eq, State.mapStrands_strand, hctx]
  have hidle : ((s.passDwelt i).ctx k).running = false := by rw [State.ctx, hdwelt]; exact h
  have hresults : (s.passResults i).strand k = (s.passBlended i).strand k :=
    (State.results_idle hidle).trans ((State.phases_idle hidle).strand.trans hdwelt)
  obtain ⟨t, -, ht, hpass⟩ := State.admissionPass_completion (k := k) i s
  rw [hresults] at ht
  have notRamping : (t.ctx k).state ≠ .ramping := fun hr => by
    rw [State.ctx, ht] at hr
    exact ne_true_of_eq_false h ((Context.running_iff _).mpr (.inl hr))
  rw [hpass, State.completionTest_stays fun _ _ _ _ hc => notRamping hc.1, ht]

variable {b : Handback} (hs : (s.ctx k).state = .handback) (hb : (s.strand k).blend = some b)
include hs hb

/-- The pass that takes the last step of a blend (R137). -/
theorem State.admissionPass_blendEnds (hk : b.k + 1 = b.n) :
    (s.admissionPass i).strand k = (s.strand k).blendEnded b.claim := by
  obtain ⟨t, -, ht, hstep⟩ := State.passBlended_blendStep i s k
  have hended : (s.passBlended i).strand k = (s.strand k).blendEnded b.claim := by
    rw [hstep, State.blendStep_last (by rw [State.ctx, ht]; exact hs) (by rw [ht, hb]) hk, State.completeBlend_strand, ht]
  rw [State.admissionPass_idle i (by rw [State.ctx, hended]; rfl), hended]

/-- The pass that takes any other step of a blend (R135). -/
theorem State.admissionPass_blends (hk : b.k + 1 ≠ b.n) : (s.admissionPass i).strand k =
    { s.strand k with blend := some { b with k := b.k + 1 }, grant := s.blendGrant (s.strand k) b (b.k + 1) } := by
  obtain ⟨t, hnear, ht, hstep⟩ := State.passBlended_blendStep i s k
  have hgrant : t.blendGrant = s.blendGrant := State.blendGrant_congr hnear.lim
  have hblended : (s.passBlended i).strand k =
      { s.strand k with blend := some { b with k := b.k + 1 }, grant := s.blendGrant (s.strand k) b (b.k + 1) } := by
    rw [hstep, State.blendStep_between (by rw [State.ctx, ht]; exact hs) (by rw [ht, hb]) hk, State.strand_upd_same, ht, hgrant]
  have hidle : (s.ctx k).running = false := Context.idle_of_state hs nofun nofun
  rw [State.admissionPass_idle i (by rw [State.ctx, hblended]; exact hidle), hblended]

/-- BLEND_COMPLETE at the last step of a blend (R137). -/
theorem exec_blendComplete (hk : b.k + 1 = b.n) : exec (.blendComplete k) s = .next (s.completeBlend k b.claim) := by
  change execBlendComplete k s = _
  unfold execBlendComplete
  rw [hb]
  dsimp only
  rw [if_pos hk, State.blendStep_last hs hb hk]

end

/-- Settles O34: the branches of HANDBACK, the last blend step by its row and at a pass, every other step, and the
blend's values. -/
theorem handbackAndBlendEnd : Obligations.HandbackAndBlendEnd := by
  refine ⟨?handback, ?ends, ?steps, ?values⟩
  case handback =>
    intro s q w k ha hn x go
    refine ⟨fun hr => State.answer_refused 18 ha hn (handbackBody_refuses (.inl hr)),
      fun _ he => State.answer_refused 18 ha hn (handbackBody_refuses (.inr he)), fun hr he => ?_, fun hr he => ?_⟩
    · obtain ⟨hrun, hshadow⟩ := (Context.realRun_iff _).mp hr
      exact (State.answer_named 18 ha hn (handbackBody_accepts hrun he)).trans (by rw [State.leaveByHandback_real hshadow]; rfl)
    · obtain ⟨hrun, hshadow⟩ := (Context.shadowRun_iff _).mp hr
      exact (State.answer_named 18 ha hn (handbackBody_accepts hrun he)).trans (by rw [State.leaveByHandback_shadow hshadow]; rfl)
  case ends =>
    intro s k b x hs hb hk done t
    exact ⟨exec_blendComplete hs hb hk, fun i => State.admissionPass_blendEnds i hs hb hk⟩
  case steps =>
    intro s i k b x hs hb hk limited lo hi goal value flows
    have hgoal : goal = (s.blendSpeedTarget x b, s.blendFlowTargets x b) := by
      unfold State.blendSpeedTarget State.blendFlowTargets goal
      cases x.observed <;> rfl
    rw [State.admissionPass_blends i hs hb hk]
    unfold State.blendGrant flows
    rw [hgoal]
    rfl
  case values =>
    exact fun start target k n hn =>
      ⟨blendValue_between start target, blendValue_zero start target, blendValue_full start target hn⟩

end Sys2Proof.Machine

/-! A master frame with CLAIM set, by the state of its strand (R139 to R142, R153, R154). -/

namespace Sys2Proof.Machine

/-! ## What a claim makes of a strand -/

/-- The records of a strand whose frame passed with its markings: release pending and a due claim answer are paid (R154). -/
def Strand.answered (x : Strand) : Strand := { x with ctx := { x.ctx with releasePending := false }, claimDue := false }

/-- The records of a strand that is not PASSIVE with the master's values (R153, R155). -/
def Strand.recorded (o : Observed) (x : Strand) : Strand := { x with observed := some o, silence := 0, originating := false }

theorem Strand.observe_eq {x : Strand} (h : x.ctx.state ≠ .passive) (o : Observed) : x.observe o = x.recorded o := by
  unfold Strand.observe
  rw [if_neg h]
  rfl

theorem State.strand_withStrand_same (s : State) (k : StrandId) (x : Strand) : (s.withStrand k x).strand k = x :=
  State.strand_upd_same s k fun _ => x

theorem State.withStrand_withStrand (s : State) (k : StrandId) (x y : Strand) :
    (s.withStrand k x).withStrand k y = s.withStrand k y := State.upd_upd s k (fun _ => x) fun _ => y

section
variable {s : State} {k : StrandId}

theorem State.takeClaim_real (h : (s.ctx k).realRun = true) : s.takeClaim k = ⟨s.grantClaim k, true⟩ := if_pos h

theorem Context.not_realRun_of_state {c : Context} {st : StrandState} (h : c.state = st) (hr : st ≠ .ramping)
    (hh : st ≠ .holding) : ¬ c.realRun = true := fun hreal =>
  ne_true_of_eq_false (Context.idle_of_state h hr hh) ((Context.realRun_iff c).mp hreal).1

/-- A claim in HANDBACK is latched (R141). -/
theorem State.takeClaim_handback {b : Handback} (h : (s.ctx k).state = .handback) (hb : (s.strand k).blend = some b) :
    s.takeClaim k = ⟨s.withStrand k { s.strand k with blend := some { b with claim := true } }, false⟩ := by
  have hlatch : { s.strand k with blend := (s.strand k).blend.map fun b => { b with claim := true } }
      = { s.strand k with blend := some { b with claim := true } } := by
    rw [hb]
    rfl
  unfold State.takeClaim
  rw [if_neg (Context.not_realRun_of_state h nofun nofun), h]
  exact congrArg (fun x => Claimed.mk (s.withStrand k x) false) hlatch

/-- A claim in TRIPPED is refused and counted (R142). -/
theorem State.takeClaim_tripped (h : (s.ctx k).state = .tripped) : s.takeClaim k =
    ⟨s.count fun c => { c with claimsRefused := satInc c.claimsRefused }, false⟩ := by
  unfold State.takeClaim
  rw [if_neg (Context.not_realRun_of_state h nofun nofun), h]

/-- A claim has no effect on a strand that the part does not drive (R139). -/
theorem State.takeClaim_undriven (h : (s.ctx k).driving = false) : s.takeClaim k = ⟨s, false⟩ := by
  have hnot := fun hd => ne_true_of_eq_false h ((Context.driving_iff _).mpr hd)
  unfold State.takeClaim
  rw [if_neg fun hr => hnot (.inl hr)]
  split
  · next hs => exact absurd (.inr (.inl hs)) hnot
  · next hs => exact absurd (.inr (.inr hs)) hnot
  · rfl

/-! ## How the frame leaves -/

/-- The frame of a driving strand is rewritten from its grant and state, which the observed record does not touch (R154). -/
theorem State.sendActuator_driving {x y : Strand} (hy : s.strand k = y) (hgrant : y.grant = x.grant) (hctx : y.ctx = x.ctx)
    (hd : x.ctx.driving = true) (f : Frame) (values : List Word) (c : Word) (granted : Bool) :
    s.sendActuator k f values c granted = s.send (rewrittenFrame f c x) := by
  unfold State.sendActuator rewrittenFrame
  dsimp only
  rw [hy, hctx, hgrant, if_pos hd]

theorem State.sendActuator_undriven (h : (s.ctx k).driving = false) (f : Frame) (values : List Word) (c : Word)
    (granted : Bool) : s.sendActuator k f values c granted = (s.upd k Strand.answered).send
      { f with payload := values ++ [controlPassed c (s.ctx k).releasePending (granted || (s.strand k).claimDue)] } :=
  if_neg (ne_true_of_eq_false h)

/-- A strand's records and the coordinator's return to CLEAR do not meet, unless the low mark changes (R102). -/
theorem State.upd_settled {f : Strand → Strand} (h : (f (s.strand k)).mark = (s.strand k).mark) :
    s.settled.upd k f = (s.upd k f).settled := by
  have hmarks : (∀ j, ((s.upd k f).strand j).mark = none) ↔ ∀ j, (s.strand j).mark = none := forall_congr' fun j => by
    rw [State.strand_upd]
    split
    · next hj => rw [hj, h]
    · rfl
  unfold State.settled
  simp only [hmarks, State.upd_change]
  split
  · exact State.upd_raise _ _ _ _ _ _
  · rfl

theorem State.strand_settled (s : State) (k : StrandId) : s.settled.strand k = s.strand k := by
  rw [← State.settleChange_eq_settled]
  unfold State.settleChange
  split
  · exact State.strand_moveChange _ _ _
  · rfl

/-- A claim granted at once, and the frame that carries it, which pays a release pending too (R140, R154). -/
theorem State.grantClaim_sendActuator (s : State) (k : StrandId) (f : Frame) (values : List Word) (c : Word) :
    (s.grantClaim k).sendActuator k f values c true =
      ((s.upd k fun x => x.enterTracking.answered).settled.raise .claim (some k) 0).send
        { f with payload := values ++ [controlPassed c (s.ctx k).releasePending true] } := by
  have hgrant : s.grantClaim k = (s.upd k Strand.enterTracking).settled.raise .claim (some k) 0 := by
    rw [State.grantClaim, State.settleChange_eq_settled]
  have hstrand : (s.grantClaim k).strand k = (s.strand k).enterTracking := by
    rw [hgrant, State.strand_raise, State.strand_settled, State.strand_upd_same]
  have hupd : (s.grantClaim k).upd k Strand.answered
      = (s.upd k fun x => x.enterTracking.answered).settled.raise .claim (some k) 0 := by
    rw [hgrant, State.upd_raise, State.upd_settled rfl, State.upd_upd]
  rw [State.sendActuator_undriven (by rw [State.ctx, hstrand]; rfl), hupd, State.ctx, hstrand, Bool.true_or]
  rfl

end

/-! ## The row -/

section
variable {s : State} {f : Frame} {k : StrandId} {v f1 f2 f3 f4 c : Word}
  (hu : s.frameUse f = .slot (.actuator k)) (hp : f.payload = [v, f1, f2, f3, f4, c]) (hl : s.loading = false)
include hu hp hl

/-- MASTER_ACTUATOR_FRAME with CLAIM set: observed, taken as a claim, and sent on (R139, R153, R154). -/
theorem exec_masterActuatorFrame_claim (hc : c.getLsbD 0 = true) :
    let claimed := (s.upd k (Strand.observe ⟨v.toNat, ⟨f1.toNat, f2.toNat, f3.toNat, f4.toNat⟩, true⟩)).takeClaim k
    exec (.masterActuatorFrame f) s = .next (claimed.state.sendActuator k f [v, f1, f2, f3, f4] c claimed.granted) := by
  have hbit : claimBit c = true := hc
  change execMasterActuatorFrame f s = _
  unfold execMasterActuatorFrame State.actuatorFrame
  rw [hu, hp]
  dsimp only
  rw [if_neg (ne_true_of_eq_false hl), hbit]
  rfl

end

/-- Settles O35: the claim at a real run, in HANDBACK, in TRIPPED, and at a strand that is not driving. -/
theorem claimsByState : Obligations.ClaimsByState := by
  intro s f k v f1 f2 f3 f4 c hu hp hl hc x o sent
  have row : let claimed := (s.upd k (Strand.observe o)).takeClaim k
      exec (.masterActuatorFrame f) s = .next (claimed.state.sendActuator k f [v, f1, f2, f3, f4] c claimed.granted) :=
    exec_masterActuatorFrame_claim hu hp hl hc
  have recorded : x.ctx.state ≠ .passive → s.upd k (Strand.observe o) = s.withStrand k (x.recorded o) := fun h =>
    congrArg (s.withStrand k) (Strand.observe_eq h o)
  have hstrand : (s.withStrand k (x.recorded o)).strand k = x.recorded o := State.strand_withStrand_same s k _
  have hctx : (s.withStrand k (x.recorded o)).ctx k = x.ctx := by rw [State.ctx, hstrand]; rfl
  refine ⟨fun hr => ?real, fun b hs hb => ?handback, fun hs => ?tripped, fun hd => ?undriven⟩
  case real =>
    intro y control t t'
    have notPassive : x.ctx.state ≠ .passive := fun hs => Context.not_realRun_of_state hs nofun nofun hr
    have hcontrol : controlPassed c x.ctx.releasePending true = control := by
      unfold controlPassed control
      split <;> rfl
    have hy : (s.withStrand k (x.recorded o)).upd k (fun z => z.enterTracking.answered) = t :=
      (congrArg (State.withStrand _ k) (congrArg (Strand.answered ∘ Strand.enterTracking) hstrand)).trans
        (State.withStrand_withStrand s k _ y)
    rw [row, recorded notPassive, State.takeClaim_real (by rw [hctx]; exact hr), State.grantClaim_sendActuator, hctx, hy,
      hcontrol]
    rfl
  case handback =>
    have hlatched := State.strand_withStrand_same s k { x.recorded o with blend := some { b with claim := true } }
    rw [row, recorded (by rw [hs]; nofun), State.takeClaim_handback (by rw [hctx]; exact hs) (by rw [hstrand]; exact hb), hstrand,
      State.withStrand_withStrand, State.sendActuator_driving (x := x) hlatched rfl rfl
        ((Context.driving_iff _).mpr (.inr (.inl hs)))]
    rfl
  case tripped =>
    rw [row, recorded (by rw [hs]; nofun), State.takeClaim_tripped (by rw [hctx]; exact hs),
      State.sendActuator_driving (x := x) ((State.strand_count _ _ _).trans hstrand) rfl rfl
        ((Context.driving_iff _).mpr (.inr (.inr hs)))]
    rfl
  case undriven =>
    intro marked passed
    have hobserved : (s.upd k (Strand.observe o)).strand k = x.observe o := State.strand_upd_same s k _
    have hidle : ((s.upd k (Strand.observe o)).ctx k).driving = false := by rw [State.ctx, hobserved]; exact hd
    rw [row, State.takeClaim_undriven hidle, State.sendActuator_undriven hidle, State.ctx, hobserved, State.upd_upd]
    rfl

end Sys2Proof.Machine

/-! Frames and their words on the line, and the general checks that every request meets (R147, R148, R157, R158). -/

namespace Sys2Proof

/-! ## Frames on the line -/

@[simp] theorem Word.hi_ofBytes (hi lo : Byte) : Word.hi (Word.ofBytes hi lo) = hi := by
  unfold Word.hi Word.ofBytes
  exact BitVec.extractLsb'_append_eq_left

@[simp] theorem Word.lo_ofBytes (hi lo : Byte) : Word.lo (Word.ofBytes hi lo) = lo := by
  unfold Word.lo Word.ofBytes
  exact BitVec.extractLsb'_append_eq_right

/-- A word is its two bytes. -/
theorem Word.ofBytes_hi_lo (w : Word) : Word.ofBytes (Word.hi w) (Word.lo w) = w := by
  unfold Word.ofBytes Word.hi Word.lo
  rw [BitVec.extractLsb'_append_extractLsb'_eq_extractLsb' (start₁ := 0) (len₁ := 8) rfl]
  exact BitVec.extractLsb'_eq_self

/-- Words on the line spell a frame only as that frame's own words (R147). -/
theorem Frame.wire_of_ofWire {ws : List Word} {f : Frame} (h : Frame.ofWire ws = some f) :
    f.payload.length ≤ 16 ∧ f.wire = ws := by
  unfold Frame.ofWire at h
  split at h
  · next w0 w1 rest =>
    dsimp only at h
    split at h
    · next hw =>
      obtain ⟨hn, hlen, hlast⟩ := hw
      cases h
      generalize hp : rest.take (Word.lo w1).toNat = payload at hlast
      have hpay : payload.length = (Word.lo w1).toNat := by rw [← hp, List.length_take]; omega
      have hinit : rest.dropLast = payload := by rw [List.dropLast_eq_take, hlen, ← hp]; rfl
      have hrest : payload ++ [crc16 (w0 :: w1 :: payload)] = rest := by
        rw [← hinit]
        exact List.dropLast_append_getLast? _ (hinit.symm ▸ hlast)
      have hbody : Frame.body ⟨Word.hi w0, Word.lo w0, Word.hi w1, payload⟩ = w0 :: w1 :: payload := by
        unfold Frame.body
        dsimp only
        rw [hpay, BitVec.ofNat_toNat, BitVec.setWidth_eq, Word.ofBytes_hi_lo, Word.ofBytes_hi_lo]
      refine ⟨hpay.trans_le hn, ?_⟩
      unfold Frame.wire
      rw [hbody, ← hrest]
      rfl
    · cases h
  · cases h

/-- The words of a frame of at most 16 payload words spell it (R147). -/
theorem Frame.ofWire_wire {f : Frame} (h : f.payload.length ≤ 16) : Frame.ofWire f.wire = some f := by
  have hlen : (Word.lo (Word.ofBytes f.origin (BitVec.ofNat 8 f.payload.length))).toNat = f.payload.length := by
    rw [Word.lo_ofBytes, BitVec.toNat_ofNat]
    omega
  unfold Frame.wire Frame.body Frame.ofWire
  dsimp only [List.cons_append]
  rw [hlen]
  simp [h]

end Sys2Proof

namespace Sys2Proof.Machine

/-- Settles O42: both directions. -/
theorem framesReadBackFromTheLine : Obligations.FramesReadBackFromTheLine :=
  ⟨fun _ => Frame.ofWire_wire, fun _ _ => Frame.wire_of_ofWire⟩

/-! ## The general checks of a request -/

/-- A request of the right length is answered as any other (R157, R161). -/
theorem State.answerSized_fits (s : State) (code : Word) (q : ReqHead) (body : State → Answer) :
    s.answerSized code q true body = s.answer code q body := by
  unfold State.answerSized
  split
  · next ho => exact (if_pos ho).symm
  · rfl

/-- What every well-formed request meets first: a request of the part's own node is removed, and the start-up load refuses BUSY
(R148, R157, R158); the KEY level comes with PROTECT_SET in either case. -/
theorem State.runRequest_checked {i : Instr} {q : ReqHead} {code : Word} {ps : List Word} (hq : i.head = some q)
    (hc : i.codeAndParams = some (code, ps)) (hw : i.wf = true) (s : State) : ∃ t, s.runRequest i =
      if s.isOwn q.origin then s.sensing i
      else if s.loading then (s.sensing i).reply code q .busy []
      else t := by
  have answered : ∀ (s : State) (code : Word) (body : State → Answer), ∃ t, s.answer code q body =
      if s.isOwn q.origin then s else if s.loading then s.reply code q .busy [] else t := fun _ _ _ => ⟨_, rfl⟩
  have sized : ∀ {kind : Nat} {index : Word} {fields : List Word} (body : State → Answer),
      decide (nodeOk q.origin ∧ tableLengthOk kind index fields ∧ fields.length ≤ 12) = true →
      ∃ t, s.answerSized 25 q (tableLengthOk kind index fields) body =
        if s.isOwn q.origin then s else if s.loading then s.reply 25 q .busy [] else t := by
    intro kind index fields body h
    obtain ⟨-, hlen, -⟩ := of_decide_eq_true h
    rw [hlen, State.answerSized_fits]
    exact answered s 25 body
  cases i <;> cases hq <;> cases hc
  case tableWriteSegment => exact sized _ hw
  case tableWriteProfile => exact sized _ hw
  case tableWriteCooling => exact sized _ hw
  case tableWritePlant => exact sized _ hw
  case tableWriteLimits => exact sized _ hw
  case protectSet key => exact answered { s with key } 28 _
  case partReset => exact ⟨_, rfl⟩
  case sourceFreeze => exact answered s 15 sourceFreezeBody
  case tableClose => exact answered s 24 tableCloseBody
  all_goals exact answered s _ _

/-- Settles O3: every request row as a request, by the checks that come before its owning rule. -/
theorem requestsDuringTheLoadReplyBusy : Obligations.RequestsDuringTheLoadReplyBusy := by
  intro i q code ps s hq hc hw
  obtain ⟨t, ht⟩ := State.runRequest_checked hq hc hw s
  rw [exec_request hq, ht]
  refine ⟨fun ho => congrArg _ (if_pos ho), fun ho hl => congrArg _ ?_⟩
  rw [if_neg (ne_true_of_eq_false ho), if_pos hl]

end Sys2Proof.Machine

/-! What a frame on UP is, the frames that are not used, SET_NODE, and master frames without CLAIM (R148 to R150, R153, R154). -/

namespace Sys2Proof.Machine

/-! ## What a frame on UP is -/

section
variable {s : State} {f : Frame} (hlen : f.payload.length ≤ 16)
include hlen

theorem State.frameUse_own (ho : s.isOwn f.origin = true) : s.frameUse f = .own := by
  unfold State.frameUse
  rw [if_neg (Nat.not_lt.mpr hlen), if_pos ho]

/-- A frame of another node that the part does not use (R148, R150). -/
theorem State.frameUse_passes (ho : s.isOwn f.origin = false)
    (h : f.kind ≠ 1 ∧ f.kind ≠ 2 ∧ f.kind ≠ 3 ∨ f.kind = 3 ∧ f.low ≠ s.config.node
      ∨ f.kind = 2 ∧ s.config.slotUse f.low = none) : s.frameUse f = .passes := by
  unfold State.frameUse
  rw [if_neg (Nat.not_lt.mpr hlen), if_neg (ne_true_of_eq_false ho)]
  rcases h with ⟨h1, h2, h3⟩ | ⟨h3, hnode⟩ | ⟨h2, hslot⟩
  · rw [if_neg h1, if_neg h2, if_neg fun h => h3 h.1]
  · rw [if_neg (by rw [h3]; decide), if_neg (by rw [h3]; decide), if_neg fun h => hnode h.2]
  · rw [if_neg (by rw [h2]; decide), if_pos h2, hslot]

/-- A frame of an owned slot with another length than its use has (R150). -/
theorem State.frameUse_malformed {u : SlotUse} (ho : s.isOwn f.origin = false) (hk : f.kind = 2)
    (hslot : s.config.slotUse f.low = some u) (hu : f.payload.length ≠ u.length) : s.frameUse f = .malformed := by
  unfold State.frameUse
  rw [if_neg (Nat.not_lt.mpr hlen), if_neg (ne_true_of_eq_false ho), if_neg (by rw [hk]; decide), if_pos hk, hslot]
  exact if_neg hu

end

/-- Settles O41: each row by what its frame is judged to be. -/
theorem framesThatAreNotUsed : Obligations.FramesThatAreNotUsed := by
  refine ⟨fun s ws h => ?_, fun s f hlen => ⟨fun ho => ?_, fun ho h => ?_, fun u ho hk hslot hu => ?_⟩⟩
  · change execBadCheckFrame ws s = _
    rw [execBadCheckFrame, h]
    rfl
  · change execOwnFrameReturn f s = _
    rw [execOwnFrameReturn, State.frameUse_own hlen ho]
  · change execPassThroughFrame f s = _
    rw [execPassThroughFrame, State.frameUse_passes hlen ho h]
    rfl
  · change execMalformedFrame f s = _
    rw [execMalformedFrame, State.frameUse_malformed hlen ho hk hslot hu]
    rfl

/-! ## SET_NODE -/

/-- SET_NODE while no store operation is in progress (R149). -/
theorem setNodeBody_idle {n : Word} {s : State} (h : s.op = .idle) : setNodeBody n s =
    if n.toNat < 1 ∨ 254 < n.toNat then .error .range
    else if n.toNat = s.working.config.node.toNat then .ok (s, [])
    else .ok ({ s.setConfig fun c => { c with node := BitVec.ofNat 8 n.toNat } with
      retired := some { node := s.working.config.node, beats := 0 } }, []) := by
  unfold setNodeBody
  rw [if_neg (by simp [State.busy_iff, h])]
  by_cases hn : n.toNat < 1 ∨ 254 < n.toNat
  · rw [rangeWord_eq_none.mpr hn, if_pos hn]
  · rw [rangeWord_eq_some.mpr ⟨rfl, by omega, by omega⟩, if_neg hn]
    have hnode : BitVec.ofNat 8 n.toNat = s.working.config.node ↔ n.toNat = s.working.config.node.toNat := by
      rw [← BitVec.toNat_inj, BitVec.toNat_ofNat, Nat.mod_eq_of_lt (by omega)]
    simp only [hnode]

/-- Settles O38: the checks of SET_NODE in their order. -/
theorem setNodeRetiresTheOldNumber : Obligations.SetNodeRetiresTheOldNumber := by
  intro s q n ha old go
  have refused : ∀ {r}, setNodeBody n s = .error r → go = .next (s.reply 19 q r []) := fun h =>
    congrArg Host.Outcome.next (State.answer_error ha h)
  have accepted : ∀ {t}, setNodeBody n s = .ok (t, []) → go = .next (t.reply 19 q .ok []) := fun h =>
    congrArg Host.Outcome.next (State.answer_ok ha h)
  refine ⟨fun hb => refused (if_pos (State.busy_iff.mpr hb)), fun hi hn => refused ?_,
    fun hi hlo hhi hsame => accepted ?_, fun hi hlo hhi hnew => accepted ?_⟩
  · rw [setNodeBody_idle hi, if_pos (by omega)]
  · rw [setNodeBody_idle hi, if_neg (by omega), if_pos hsame]
  · rw [setNodeBody_idle hi, if_neg (by omega), if_neg hnew]

/-! ## MASTER_ACTUATOR_FRAME -/

/-- The bits that the part writes into the control word of a rewritten frame, and CLAIM as received (R147, R154). -/
theorem controlRewritten_bits (c : Word) (st : StrandState) :
    (controlRewritten c st).getLsbD 0 = c.getLsbD 0 ∧ (controlRewritten c st).getLsbD 1 = false
      ∧ (controlRewritten c st).getLsbD 2 = true ∧ (controlRewritten c st).getLsbD 3 = false
      ∧ (controlRewritten c st).getLsbD 4 = false ∧ ((controlRewritten c st).extractLsb' 8 3).toNat = st.code := by
  have hmask : c.extractLsb' 8 3 &&& (0xF8E1#16).extractLsb' 8 3 = 0 := BitVec.and_zero
  have hcode : ((stateBits st).extractLsb' 8 3).toNat = st.code := by cases st <;> rfl
  have hstate : ∀ i < 8, (stateBits st).getLsbD i = false := by cases st <;> decide
  have hlow : ∀ i < 8, (controlRewritten c st).getLsbD i = (c.getLsbD i && (0xF8E1#16).getLsbD i || (0x0004#16).getLsbD i) :=
    fun i hi => by
      unfold controlRewritten
      rw [BitVec.getLsbD_or, BitVec.getLsbD_or, BitVec.getLsbD_and, hstate i hi, Bool.or_false]
  refine ⟨(hlow 0 (by decide)).trans ?_, (hlow 1 (by decide)).trans ?_, (hlow 2 (by decide)).trans ?_,
    (hlow 3 (by decide)).trans ?_, (hlow 4 (by decide)).trans ?_, ?_⟩
  case refine_6 =>
    unfold controlRewritten
    rw [BitVec.extractLsb'_or, BitVec.extractLsb'_or, BitVec.extractLsb'_and, hmask, ← hcode]
    exact congrArg BitVec.toNat BitVec.zero_or
  all_goals simp

section
variable {s : State} {f : Frame} {k : StrandId} {v f1 f2 f3 f4 c : Word}
  (hu : s.frameUse f = .slot (.actuator k)) (hp : f.payload = [v, f1, f2, f3, f4, c])
include hu hp

/-- MASTER_ACTUATOR_FRAME during the start-up load (R158). -/
theorem exec_masterActuatorFrame_loading (hl : s.loading = true) : exec (.masterActuatorFrame f) s = .next (s.send f) := by
  change execMasterActuatorFrame f s = _
  unfold execMasterActuatorFrame State.actuatorFrame
  rw [hu, hp]
  exact congrArg _ (if_pos hl)

/-- MASTER_ACTUATOR_FRAME without CLAIM: observed and sent on (R153, R154). -/
theorem exec_masterActuatorFrame_unclaimed (hl : s.loading = false) (hc : c.getLsbD 0 = false) :
    let observed := s.upd k (Strand.observe ⟨v.toNat, ⟨f1.toNat, f2.toNat, f3.toNat, f4.toNat⟩, false⟩)
    exec (.masterActuatorFrame f) s = .next (observed.sendActuator k f [v, f1, f2, f3, f4] c false) := by
  have hbit : claimBit c = false := hc
  change execMasterActuatorFrame f s = _
  unfold execMasterActuatorFrame State.actuatorFrame
  rw [hu, hp]
  dsimp only
  rw [if_neg (ne_true_of_eq_false hl), hbit]
  rfl

end

/-- Settles O36: the load, a driving strand, and a strand that is not driving. -/
theorem masterFramesByState : Obligations.MasterFramesByState := by
  intro s f k v f1 f2 f3 f4 c hu hp x o marked passed
  have hobserved : (s.upd k (Strand.observe o)).strand k = x.observe o := State.strand_upd_same s k _
  refine ⟨exec_masterActuatorFrame_loading hu hp, fun hl hc hd => ?_, fun hl hc hd => ?_,
    controlRewritten_bits c x.ctx.state⟩
  · have notPassive : x.ctx.state ≠ .passive := fun hs => by
      simp [Context.driving_iff, Context.realRun_iff, Context.running, hs] at hd
    rw [exec_masterActuatorFrame_unclaimed hu hp hl hc, State.sendActuator_driving (x := x) hobserved rfl rfl hd]
    exact congrArg (fun y => Host.Outcome.next ((s.withStrand k y).send (rewrittenFrame f c x))) (Strand.observe_eq notPassive o)
  · have hidle : ((s.upd k (Strand.observe o)).ctx k).driving = false := by rw [State.ctx, hobserved]; exact hd
    rw [exec_masterActuatorFrame_unclaimed hu hp hl hc, State.sendActuator_undriven hidle, State.ctx, hobserved, State.upd_upd]
    rfl

end Sys2Proof.Machine

/-! Requests and their payloads: the catalogue read and written, and what is none of it (R157, R161). -/

namespace Sys2Proof

open Machine

/-! ## Reading a request -/

/-- The row asks q's request of this code with these parameters (R157). -/
def Instr.asks (i : Instr) (q : ReqHead) (code : Word) (ps : List Word) : Prop :=
  i.head = some q ∧ i.codeAndParams = some (code, ps)

/-- A code of the catalogue that carries n parameters is read as its row with exactly n, and as a wrong length otherwise (R157,
check 1). -/
def Carries (q : ReqHead) (t : Nat) (key : KeyPos) (code : Word) (n : Nat) : Prop :=
  ∀ ps, if ps.length = n then ∃ i, readRequest q t key code ps = .command i ∧ i.asks q code ps
    else readRequest q t key code ps = .wrongLength code q.tag

section
variable {q : ReqHead} {t : Nat} {key : KeyPos} {code : Word}

theorem carries_none (h : code.toNat ∈ [10, 11, 12, 14, 15, 17, 22, 23, 24, 27, 29]) : Carries q t key code 0 := by
  suffices H : ∀ n ∈ [10, 11, 12, 14, 15, 17, 22, 23, 24, 27, 29], Carries q t key (word n) 0 from word_toNat code ▸ H _ h
  simp only [List.forall_mem_cons, List.not_mem_nil, false_imp_iff, implies_true, and_true]
  and_intros
  all_goals exact fun
    | [] => ⟨_, rfl, rfl, rfl⟩
    | _ :: _ => rfl

theorem carries_one (h : code.toNat ∈ [1, 2, 4, 5, 6, 7, 16, 18, 19, 20, 21, 30, 31, 32]) : Carries q t key code 1 := by
  suffices H : ∀ n ∈ [1, 2, 4, 5, 6, 7, 16, 18, 19, 20, 21, 30, 31, 32], Carries q t key (word n) 1 from
    word_toNat code ▸ H _ h
  simp only [List.forall_mem_cons, List.not_mem_nil, false_imp_iff, implies_true, and_true]
  and_intros
  all_goals exact fun
    | [] => rfl
    | [_] => ⟨_, rfl, rfl, rfl⟩
    | _ :: _ :: _ => rfl

theorem carries_two (h : code.toNat ∈ [9, 13, 26]) : Carries q t key code 2 := by
  suffices H : ∀ n ∈ [9, 13, 26], Carries q t key (word n) 2 from word_toNat code ▸ H _ h
  simp only [List.forall_mem_cons, List.not_mem_nil, false_imp_iff, implies_true, and_true]
  and_intros
  all_goals exact fun
    | [] | [_] => rfl
    | [_, _] => ⟨_, rfl, rfl, rfl⟩
    | _ :: _ :: _ :: _ => rfl

theorem carries_three (h : code.toNat ∈ [3, 28]) : Carries q t key code 3 := by
  suffices H : ∀ n ∈ [3, 28], Carries q t key (word n) 3 from word_toNat code ▸ H _ h
  simp only [List.forall_mem_cons, List.not_mem_nil, false_imp_iff, implies_true, and_true]
  and_intros
  all_goals exact fun
    | [] | [_] | [_, _] => rfl
    | [_, _, _] => ⟨_, rfl, rfl, rfl⟩
    | _ :: _ :: _ :: _ :: _ => rfl

theorem carries_setArbiter (h : code.toNat = 8) : Carries q t key code 9 := by
  obtain rfl : code = 8 := BitVec.eq_of_toNat_eq h
  exact fun
    | [] | [_] | [_, _] | [_, _, _] | [_, _, _, _] | [_, _, _, _, _] | [_, _, _, _, _, _] | [_, _, _, _, _, _, _]
    | [_, _, _, _, _, _, _, _] => rfl
    | [_, _, _, _, _, _, _, _, _] => ⟨_, rfl, rfl, rfl⟩
    | _ :: _ :: _ :: _ :: _ :: _ :: _ :: _ :: _ :: _ :: _ => rfl

theorem Carries.wrong {n : Nat} {ps : List Word} (h : Carries q t key code n) (hn : ps.length ≠ n) :
    readRequest q t key code ps = .wrongLength code q.tag := by
  have := h ps
  rwa [if_neg hn] at this

/-- A code from 1 to 32 other than that of TABLE_WRITE carries a number of parameters that it fixes (R157). -/
theorem carries_some (h1 : 1 ≤ code.toNat) (h32 : code.toNat ≤ 32) (h25 : code.toNat ≠ 25) :
    ∃ n, Carries q t key code n := by
  have hcases : code.toNat ∈ [10, 11, 12, 14, 15, 17, 22, 23, 24, 27, 29]
      ∨ code.toNat ∈ [1, 2, 4, 5, 6, 7, 16, 18, 19, 20, 21, 30, 31, 32] ∨ code.toNat ∈ [9, 13, 26]
      ∨ code.toNat ∈ [3, 28] ∨ code.toNat = 8 := by
    simp only [List.mem_cons, List.not_mem_nil, or_false]
    omega
  rcases hcases with h | h | h | h | h
  · exact ⟨0, carries_none h⟩
  · exact ⟨1, carries_one h⟩
  · exact ⟨2, carries_two h⟩
  · exact ⟨3, carries_three h⟩
  · exact ⟨9, carries_setArbiter h⟩

/-- A code outside 1 to 32 is none of the catalogue (R157, check 2). -/
theorem readRequest_unknown (h : code.toNat = 0 ∨ 32 < code.toNat) (ps : List Word) :
    readRequest q t key code ps = .unknown code q.tag := by
  unfold readRequest
  rcases h with h | h
  · rw [h]
    rfl
  · obtain ⟨m, hm⟩ := Nat.exists_eq_add_of_le' (Nat.succ_le_of_lt h)
    rw [hm]
    exact if_neg fun hle => absurd hle.2 (by omega)

/-- A TABLE_WRITE without kind and index (R157, check 1). -/
theorem readRequest_write_short {ps : List Word} (hc : code.toNat = 25) (h : ps.length < 2) :
    readRequest q t key code ps = .wrongLength code q.tag := by
  obtain rfl : code = 25 := BitVec.eq_of_toNat_eq hc
  match ps, h with
  | [], _ => rfl
  | [_], _ => rfl

/-- A TABLE_WRITE that is read as a row is that row's (R161). -/
theorem readTableWrite_command {kind index : Word} {fields : List Word} {i : Instr}
    (h : readTableWrite q kind index fields = .command i) : i.asks q 25 (kind :: index :: fields) := by
  have hkind : ∀ {n : Nat}, kind.toNat = n → word n = kind := fun h => h ▸ word_toNat kind
  unfold readTableWrite at h
  split at h
  · split at h
    case h_6 => cases h
    all_goals next hn => cases h; exact ⟨rfl, by rw [← hkind hn]; rfl⟩
  · cases h

/-- A payload that is read as a row of the catalogue is that row's (R157). -/
theorem readRequest_command {ps : List Word} {i : Instr} (h : readRequest q t key code ps = .command i) :
    i.asks q code ps := by
  by_cases hrange : 1 ≤ code.toNat ∧ code.toNat ≤ 32
  · by_cases h25 : code.toNat = 25
    · obtain rfl : code = 25 := BitVec.eq_of_toNat_eq h25
      match ps, h with
      | kind :: index :: fields, h => exact readTableWrite_command h
    · obtain ⟨n, hn⟩ := carries_some (q := q) (t := t) (key := key) hrange.1 hrange.2 h25
      have hread := hn ps
      split at hread
      · obtain ⟨j, hj, hasks⟩ := hread
        cases hj.symm.trans h
        exact hasks
      · cases hread.symm.trans h
  · cases (readRequest_unknown (by omega) ps).symm.trans h

end

/-! ## Requests and their payloads -/

/-- A payload that is read as a row of the catalogue is that row's, with its tag (R157). -/
theorem decodeRequest_command {i : Instr} {o : Byte} {ws : List Word} {t : Nat} {key : KeyPos}
    (h : decodeRequest o t key ws = .command i) : i.requestPayload = some ws ∧ ∃ tag, i.head = some ⟨o, tag⟩ := by
  match ws, h with
  | code :: tag :: ps, h =>
    obtain ⟨hhead, hparams⟩ := readRequest_command h
    refine ⟨?_, tag, hhead⟩
    unfold Instr.requestPayload
    rw [hhead, hparams]

theorem vector_of_words (v : Vector Word 8) : #v[v[0], v[1], v[2], v[3], v[4], v[5], v[6], v[7]] = v := by
  ext i hi
  interval_cases i <;> rfl

/-- The payload of a well-formed request is read as that request (R157, R161). -/
theorem decodeRequest_payload {i : Instr} {q : ReqHead} {ws : List Word} {t : Nat} {key : KeyPos} (hw : i.wf = true)
    (hq : i.head = some q) (hp : i.requestPayload = some ws) (ht : ∀ p t', i = .setBeatPeriod q p t' → t' = t)
    (hkey : ∀ r c l key', i = .protectSet q r c l key' → key' = key) : decodeRequest q.origin t key ws = .command i := by
  have written : ∀ {kind : Nat} {index : Word} {fields : List Word},
      decide (nodeOk q.origin ∧ tableLengthOk kind index fields ∧ fields.length ≤ 12) = true →
      tableLengthOk kind index fields = true := fun h => (of_decide_eq_true h).2.1
  cases i <;> cases hq <;> cases hp
  case setArbiter mode pr => exact congrArg (fun v => RequestReading.command (.setArbiter q mode v)) (vector_of_words pr)
  case setBeatPeriod p t' => rw [ht p t' rfl]; rfl
  case protectSet r c l key' => rw [hkey r c l key' rfl]; rfl
  case tableWriteSegment => exact if_pos (written hw)
  case tableWriteProfile => exact if_pos (written hw)
  case tableWriteCooling => exact if_pos (written hw)
  case tableWritePlant => exact if_pos (written hw)
  case tableWriteLimits => exact if_pos (written hw)
  all_goals rfl

end Sys2Proof

namespace Sys2Proof.Machine

/-- Settles O43: both directions. -/
theorem requestsReadBackFromTheirPayload : Obligations.RequestsReadBackFromTheirPayload :=
  ⟨fun _ _ _ _ _ => decodeRequest_payload, fun _ _ _ _ _ => decodeRequest_command⟩

/-! ## UNKNOWN_REQUEST -/

/-- A request frame comes from another node (R148). -/
theorem State.isOwn_of_request {s : State} {f : Frame} (h : s.frameUse f = .request) : s.isOwn f.origin = false := by
  rw [← Bool.not_eq_true]
  intro ho
  unfold State.frameUse at h
  rw [if_pos ho] at h
  split at h <;> cases h

/-- Field words of another number than a TABLE_WRITE's kind and index set (R161). -/
inductive WrongFields : Nat → Word → Nat → Prop
  | segment {index : Word} {n : Nat} (h : n ≠ 7) : WrongFields 0 index n
  | profile {index : Word} {n : Nat} (h : n ≠ 10) : WrongFields 1 index n
  | cooling {index : Word} {n : Nat} (h : n ≠ 5) : WrongFields 2 index n
  | plant {index : Word} {n : Nat} (h : index = 0 ∧ n ≠ 10 ∨ index = 1 ∧ n ≠ 5) : WrongFields 3 index n
  | limits {index : Word} {n : Nat} (h : index = 0 ∧ n ≠ 5 ∨ index = 1 ∧ n ≠ 12) : WrongFields 4 index n

theorem tableLengthOk_wrong {kind : Nat} {index : Word} {fields : List Word} (h : WrongFields kind index fields.length) :
    tableLengthOk kind index fields = false := by
  cases h with
  | segment h | profile h | cooling h => exact decide_eq_false h
  | plant h | limits h => rcases h with ⟨rfl, h⟩ | ⟨rfl, h⟩ <;> exact decide_eq_false h

theorem readTableWrite_wrong {q : ReqHead} {kind index : Word} {fields : List Word}
    (h : WrongFields kind.toNat index fields.length) : readTableWrite q kind index fields = .wrongLength 25 q.tag :=
  if_neg (ne_true_of_eq_false (tableLengthOk_wrong h))

/-- A TABLE_WRITE row of a wrong length is answered LENGTH and counted (R157, R161). -/
theorem State.answerSized_wrong {s : State} {q : ReqHead} {kind : Nat} {index : Word} {fields : List Word}
    (ho : s.isOwn q.origin = false) (h : WrongFields kind index fields.length) (body : State → Answer) :
    s.answerSized 25 q (tableLengthOk kind index fields) body = s.refuseLength 25 q := by
  unfold State.answerSized
  rw [if_neg (ne_true_of_eq_false ho), if_neg (ne_true_of_eq_false (tableLengthOk_wrong h))]

/-- A TABLE_WRITE of no kind sets no length (R161). -/
theorem readTableWrite_noKind {kind : Word} (h : 4 < kind.toNat) (q : ReqHead) (index : Word) (fields : List Word) :
    readTableWrite q kind index fields = .writeOfNoKind q := by
  obtain ⟨m, hm⟩ := Nat.exists_eq_add_of_le' (Nat.succ_le_of_lt h)
  unfold readTableWrite
  rw [hm]
  rfl

section
variable {s : State} {f : Frame} (hu : s.frameUse f = .request)
include hu

theorem exec_unknownRequest : exec (.unknownRequest f) s = .next (s.requestFrame f) := by
  change execUnknownRequest f s = _
  rw [execUnknownRequest, hu]

/-- UNKNOWN_REQUEST with a payload of a wrong length (R157, check 1). -/
theorem exec_unknownRequest_length {code tag : Word} {ps : List Word} (hp : f.payload = ps)
    (h : decodeRequest f.origin s.now s.key ps = .wrongLength code tag) :
    exec (.unknownRequest f) s = .next (s.refuseLength code ⟨f.origin, tag⟩) := by
  rw [exec_unknownRequest hu, State.requestFrame, hp, h]

/-- UNKNOWN_REQUEST with a code that the catalogue does not hold (R157, check 2). -/
theorem exec_unknownRequest_unknown {code tag : Word} {ps : List Word} (hp : f.payload = code :: tag :: ps)
    (h : code.toNat = 0 ∨ 32 < code.toNat) :
    exec (.unknownRequest f) s = .next (s.refuseUnknown code ⟨f.origin, tag⟩) := by
  have hread : decodeRequest f.origin s.now s.key (code :: tag :: ps) = .unknown code tag := readRequest_unknown h ps
  rw [exec_unknownRequest hu, State.requestFrame, hp, hread]

/-- UNKNOWN_REQUEST with a TABLE_WRITE of no kind (R157, R161). -/
theorem exec_unknownRequest_noKind {tag kind index : Word} {fields : List Word}
    (hp : f.payload = 25 :: tag :: kind :: index :: fields) (h : 4 < kind.toNat) :
    exec (.unknownRequest f) s = .next (s.answer 25 ⟨f.origin, tag⟩ writeNoKindBody) := by
  have hread : decodeRequest f.origin s.now s.key (25 :: tag :: kind :: index :: fields) = .writeOfNoKind ⟨f.origin, tag⟩ :=
    readTableWrite_noKind h _ index fields
  rw [exec_unknownRequest hu, State.requestFrame, hp, hread]

end

/-- Settles O40: the five rows of TABLE_WRITE, and UNKNOWN_REQUEST by what its payload is read as. -/
theorem unknownRequestsAreCounted : Obligations.UnknownRequestsAreCounted := by
  refine ⟨fun s q index fields i ho h => ?rows, ?frames⟩
  case rows =>
    rcases h with ⟨rfl, h⟩ | ⟨rfl, h⟩ | ⟨rfl, h⟩ | ⟨rfl, h⟩ | ⟨rfl, h⟩
    · exact congrArg _ (State.answerSized_wrong ho (.segment h) _)
    · exact congrArg _ (State.answerSized_wrong ho (.profile h) _)
    · exact congrArg _ (State.answerSized_wrong ho (.cooling h) _)
    · exact congrArg _ (State.answerSized_wrong ho (.plant h) _)
    · exact congrArg _ (State.answerSized_wrong ho (.limits h) _)
  intro s f hu counted go
  have ho := State.isOwn_of_request hu
  have short : ∀ {code tag : Word} {ps : List Word}, f.payload = ps →
      decodeRequest f.origin s.now s.key ps = .wrongLength code tag →
      go = .next (counted.reply code ⟨f.origin, tag⟩ .length []) := fun hp h => exec_unknownRequest_length hu hp h
  refine ⟨fun hp => short hp rfl, fun code hp => short hp rfl, fun code tag ps hp hc => ?unknown,
    fun code tag ps hp h => short hp ?length, ?_⟩
  case unknown => exact exec_unknownRequest_unknown hu hp hc
  case length =>
    rcases h with ⟨hc, hn⟩ | ⟨hc, hn⟩ | ⟨hc, hn⟩ | ⟨hc, hn⟩ | ⟨hc, hn⟩ | ⟨hc, hn⟩
    · exact (carries_one hc).wrong hn
    · exact (carries_none hc).wrong hn
    · exact (carries_two hc).wrong hn
    · exact (carries_three hc).wrong hn
    · exact (carries_setArbiter hc).wrong hn
    · exact readRequest_write_short hc hn
  intro tag kind index fields hp q
  refine ⟨fun h => short hp ?fields, fun hk hl => ?loading, fun hk hl => ?noKind⟩
  case fields =>
    refine readTableWrite_wrong ?_
    rcases h with ⟨rfl, h⟩ | ⟨rfl, h⟩ | ⟨rfl, h⟩ | ⟨rfl, h⟩ | ⟨rfl, h⟩
    · exact .segment h
    · exact .profile h
    · exact .cooling h
    · exact .plant h
    · exact .limits h
  case loading =>
    refine (exec_unknownRequest_noKind hu hp hk).trans (congrArg _ ?_)
    exact (if_neg (ne_true_of_eq_false ho)).trans (if_pos hl)
  case noKind =>
    have refused : ∀ {r}, writeNoKindBody s = .error r → go = .next (s.reply 25 q r []) := fun h =>
      (exec_unknownRequest_noKind hu hp hk).trans (congrArg _ (State.answer_error ⟨ho, hl⟩ h))
    exact ⟨fun hc => refused (State.writeTable_closed _ _ _ _ hc), fun hc hb => refused (State.writeTable_busy _ _ _ _ hc hb),
      fun hc hi => refused (State.writeTable_range hc hi)⟩

end Sys2Proof.Machine

/-! The status slot, and the Line Interface at a beat: silence counts, origination, the retired node number (R149, R152, R155,
R156, R158, R172). -/

namespace Sys2Proof.Machine

/-! ## The status slot -/

theorem State.statusWords_loading {s : State} (hl : s.loading = true) : s.statusWords = 1 :: List.replicate 15 0 := if_pos hl

theorem State.watchBlock_length (s : State) : s.watchBlock.length = 5 := by
  unfold State.watchBlock
  split
  · rfl
  · dsimp only
    split <;> rfl

theorem State.statusWords_length (s : State) : s.statusWords.length = 16 := by
  unfold State.statusWords
  split
  · rfl
  · simp [strandIds, State.watchBlock_length]

theorem State.partWord_running {s : State} (hl : s.loading = false) : s.partWord =
    word (2 * s.current.code + 8 * bit s.fail + 16 * bit s.switchTo.isSome + 32 * bit s.freeze + 64 * s.change.code
      + 256 * s.dip.code + 512 * s.alarms.length) := by
  have hbit : bit s.loading = 0 := by rw [hl]; rfl
  unfold State.partWord
  rw [hbit, Nat.zero_add]

/-! ## Frames and alarms one after another -/

/-- Frames sent one after another. -/
def State.sendAll (s : State) (l : List Frame) : State := { s with down := s.down ++ l.map Frame.wire }

/-- The ORIGINATE alarms of strands, one after another. -/
def State.raiseOriginate (s : State) (l : List StrandId) : State := l.foldl (fun t k => t.raise .originate (some k) 0) s

section
variable (s : State)

theorem State.sendAll_nil : s.sendAll [] = s := by
  unfold State.sendAll
  rw [List.map_nil, List.append_nil]

theorem State.sendAll_append (l m : List Frame) : (s.sendAll l).sendAll m = s.sendAll (l ++ m) := by
  unfold State.sendAll
  rw [List.map_append, ← List.append_assoc]

/-- An alarm and frames sent do not meet. -/
theorem State.sendAll_raise (a : AlarmKind) (o : Option StrandId) (d : Nat) (l : List Frame) :
    (s.raise a o d).sendAll l = (s.sendAll l).raise a o d := by
  unfold State.raise
  rw [show (s.sendAll l).alarms = s.alarms from rfl]
  split <;> rfl

/-- An alarm and a change of every strand's records do not meet. -/
theorem State.mapStrands_raise (f : StrandId → Strand → Strand) (a : AlarmKind) (o : Option StrandId) (d : Nat) :
    (s.raise a o d).mapStrands f = (s.mapStrands f).raise a o d := by
  unfold State.raise
  rw [show (s.mapStrands f).alarms = s.alarms from rfl]
  split <;> rfl

theorem State.raise_config (a : AlarmKind) (o : Option StrandId) (d : Nat) : (s.raise a o d).config = s.config := by
  unfold State.raise
  split <;> rfl

end

/-! ## Origination -/

/-- The records of a strand after one more beat: the silence count of a driving strand, and originating from its second silent
beat (R155). -/
def Strand.silenceCounted (x : Strand) : Strand :=
  if x.ctx.driving = true ∧ x.silence < 2 then
    { x with silence := x.silence + 1, originating := x.originating || decide (x.silence = 1) } else x

/-- A driving strand's silence count comes to 2 (R155). -/
def State.startsOriginating (s : State) (k : StrandId) : Bool := (s.ctx k).driving && decide ((s.strand k).silence = 1)

/-- Strand k originates after one more beat (R155). -/
def State.originates (s : State) (k : StrandId) : Bool := (s.ctx k).driving && (s.strand k).silenceCounted.originating

/-- The frames that strands of a list originate at a beat (R155). -/
def State.originFrames (s : State) (l : List StrandId) : List Frame :=
  match s.config.slotBase with
  | none => []
  | some base => (l.filter s.originates).map fun k => originatedFrame s.config.node (actuatorSlot base k) (s.strand k)

/-- The strands of a list after one more beat, and the frames they originate (R155). -/
def State.originated (s : State) (l : List StrandId) : State :=
  (s.mapStrands fun k x => if k ∈ l then x.silenceCounted else x).sendAll (s.originFrames l)

theorem Strand.silenceCounted_driving {x : Strand} (h : x.ctx.driving = true) : x.silenceCounted = x.countSilence := by
  unfold Strand.silenceCounted Strand.countSilence
  have hcount : decide (x.silence + 1 = 2) = decide (x.silence = 1) := decide_eq_decide.mpr (by omega)
  simp only [h, true_and, hcount]

theorem Strand.silenceCounted_undriven {x : Strand} (h : x.ctx.driving = false) : x.silenceCounted = x :=
  if_neg fun hd => ne_true_of_eq_false h hd.1

/-- Counting silence leaves context and grant alone. -/
theorem originatedFrame_silenceCounted (node slot : Byte) (x : Strand) :
    originatedFrame node slot x.silenceCounted = originatedFrame node slot x := by
  unfold Strand.silenceCounted
  split <;> rfl

/-- The frame that one strand originates (R155). -/
theorem State.originFrames_single {s : State} {k : StrandId} {base : Nat} (hb : s.config.slotBase = some base)
    (h : s.originates k = true) :
    s.originFrames [k] = [originatedFrame s.config.node (actuatorSlot base k) (s.strand k)] := by
  unfold State.originFrames
  rw [hb, List.filter_cons_of_pos h]
  rfl

theorem State.originFrames_single_nil {s : State} {k : StrandId}
    (h : s.config.slotBase = none ∨ s.originates k = false) : s.originFrames [k] = [] := by
  unfold State.originFrames
  split
  · rfl
  · next hb =>
    have hk := h.resolve_left (by rw [hb]; nofun)
    rw [List.filter_cons_of_neg (ne_true_of_eq_false hk)]
    rfl

/-- What origination for a driving strand comes to, once its silence is counted and its alarm raised (R155). -/
theorem State.originStep_driving {s : State} {k : StrandId} (hd : (s.ctx k).driving = true) {t : State}
    (ht : t = if (s.strand k).silence = 1 then (s.upd k Strand.silenceCounted).raise .originate (some k) 0
      else s.upd k Strand.silenceCounted) : s.originStep k = t.sendAll (s.originFrames [k]) := by
  have hcount : s.upd k Strand.countSilence = s.upd k Strand.silenceCounted :=
    congrArg (s.withStrand k) (Strand.silenceCounted_driving hd).symm
  have hstrand : t.strand k = (s.strand k).silenceCounted := by
    rw [ht]
    split
    · rw [State.strand_raise, State.strand_upd_same]
    · exact State.strand_upd_same s k _
  have hconfig : t.config = s.config := by
    rw [ht]
    split
    · exact State.raise_config _ _ _ _
    · rfl
  have horiginates : s.originates k = (s.strand k).silenceCounted.originating := by
    unfold State.originates
    rw [hd, Bool.true_and]
  have hone : (s.strand k).silence + 1 = 2 ↔ (s.strand k).silence = 1 := by omega
  unfold State.originStep
  rw [if_pos hd, hcount]
  simp only [hone]
  rw [← ht, hstrand, hconfig]
  split
  · next ho hb => rw [State.originFrames_single hb (horiginates.trans ho), originatedFrame_silenceCounted]; rfl
  · next hnot =>
    rw [State.originFrames_single_nil, State.sendAll_nil]
    rw [horiginates]
    cases hb : s.config.slotBase with
    | none => exact .inl rfl
    | some b => exact .inr (Bool.eq_false_iff.mpr fun ho => hnot b ho hb)

/-- Origination for one strand: its records, its alarm, its frame (R155). -/
theorem State.originStep_eq (s : State) (k : StrandId) : s.originStep k =
    (if s.startsOriginating k then (s.upd k Strand.silenceCounted).raise .originate (some k) 0
      else s.upd k Strand.silenceCounted).sendAll (s.originFrames [k]) := by
  cases hd : (s.ctx k).driving with
  | true =>
    refine State.originStep_driving hd ?_
    simp only [State.startsOriginating, hd, Bool.true_and, decide_eq_true_eq]
  | false =>
    have hstarts : s.startsOriginating k = false := by simp [State.startsOriginating, hd]
    have hsame : s.upd k Strand.silenceCounted = s := State.ext_strands rfl fun j => by
      rw [State.strand_upd, Strand.silenceCounted_undriven hd]
      split
      · next hj => rw [hj]
      · rfl
    rw [State.originFrames_single_nil (.inr (by simp [State.originates, hd])), hstarts, hsame, State.sendAll_nil]
    exact if_neg (ne_true_of_eq_false hd)

theorem State.originFrames_cons (s : State) (k : StrandId) (l : List StrandId) :
    s.originFrames (k :: l) = s.originFrames [k] ++ s.originFrames l := by
  unfold State.originFrames
  split
  · rfl
  · rw [← List.map_append, ← List.filter_append]
    rfl

/-- What a strand originates depends on its own records and the configuration. -/
theorem State.originFrames_congr {s t : State} {l : List StrandId} (hc : t.config = s.config)
    (hs : ∀ k ∈ l, t.strand k = s.strand k) : t.originFrames l = s.originFrames l := by
  have hfilter : l.filter t.originates = l.filter s.originates := List.filter_congr fun k hk => by
    unfold State.originates State.ctx
    rw [hs k hk]
  unfold State.originFrames
  rw [hc, hfilter]
  split
  · rfl
  · refine List.map_congr_left fun k hk => ?_
    rw [hs k (List.mem_filter.mp hk).1]

theorem State.originated_nil (s : State) : s.originated [] = s := by
  have hframes : s.originFrames [] = [] := by
    unfold State.originFrames
    split <;> rfl
  have hstrands : (s.mapStrands fun k x => if k ∈ [] then x.silenceCounted else x) = s := State.ext_strands rfl fun k => by
    rw [State.mapStrands_strand, if_neg List.not_mem_nil]
  unfold State.originated
  rw [hframes, hstrands, State.sendAll_nil]

theorem State.originated_raise (s : State) (l : List StrandId) (a : AlarmKind) (o : Option StrandId) (d : Nat) :
    (s.raise a o d).originated l = (s.originated l).raise a o d := by
  have hframes : (s.raise a o d).originFrames l = s.originFrames l :=
    State.originFrames_congr (State.raise_config s a o d) fun k _ => State.strand_raise s a o d k
  unfold State.originated
  rw [State.mapStrands_raise, State.sendAll_raise, hframes]

/-- Origination for one strand and then for others, none of them the same, is origination for all of them. -/
theorem State.originated_cons {s : State} {k : StrandId} {l : List StrandId} (hk : k ∉ l) :
    ((s.upd k Strand.silenceCounted).sendAll (s.originFrames [k])).originated l = s.originated (k :: l) := by
  have hframes : ((s.upd k Strand.silenceCounted).sendAll (s.originFrames [k])).originFrames l = s.originFrames l :=
    State.originFrames_congr rfl fun j hj => State.strand_upd_ne s (ne_of_mem_of_not_mem hj hk) _
  have hstrands : ((s.upd k Strand.silenceCounted).mapStrands fun j x => if j ∈ l then x.silenceCounted else x)
      = s.mapStrands fun j x => if j ∈ k :: l then x.silenceCounted else x := State.ext_strands rfl fun j => by
    rw [State.mapStrands_strand, State.mapStrands_strand, State.strand_upd]
    by_cases hj : j = k
    · subst hj
      simp [hk]
    · simp [hj]
  unfold State.originated
  rw [hframes, State.originFrames_cons s k l, ← hstrands, ← State.sendAll_append]
  rfl

/-- Origination for the strands of a list without repeats (R155). -/
theorem forStrands_originStep {l : List StrandId} (hl : l.Nodup) (s : State) :
    forStrands l State.originStep s = (s.originated l).raiseOriginate (l.filter s.startsOriginating) := by
  induction l generalizing s with
  | nil => exact s.originated_nil.symm
  | cons k l ih =>
    obtain ⟨hk, hl⟩ := List.nodup_cons.mp hl
    have hother : ∀ j ∈ l, (s.originStep k).strand j = s.strand j := fun j hj => by
      have hne : j ≠ k := ne_of_mem_of_not_mem hj hk
      rw [State.originStep_eq]
      change (ite _ _ _ : State).strand j = _
      split
      · rw [State.strand_raise, State.strand_upd_ne s hne]
      · exact State.strand_upd_ne s hne _
    have hstarts : l.filter (s.originStep k).startsOriginating = l.filter s.startsOriginating :=
      List.filter_congr fun j hj => by
        unfold State.startsOriginating State.ctx
        rw [hother j hj]
    have hstep : (s.originStep k).originated l
        = if s.startsOriginating k then (s.originated (k :: l)).raise .originate (some k) 0 else s.originated (k :: l) := by
      rw [State.originStep_eq, ← State.originated_cons hk]
      split
      · rw [State.sendAll_raise, State.originated_raise]
      · rfl
    change forStrands l State.originStep (s.originStep k) = _
    rw [ih hl, hstarts, hstep, List.filter_cons]
    split <;> rfl

/-! ## The rows -/

/-- The BEAT frame that takes the place of a silent LINE, where it is sent (R156). -/
def State.beatFrames (s : State) : List Frame :=
  if s.current ≠ .line ∧ s.lineMon.silent = true then [originatedBeat s.config.node] else []

theorem State.sendBeat_eq (s : State) : s.sendBeat = s.sendAll s.beatFrames := by
  unfold State.sendBeat State.beatFrames
  split
  · rfl
  · exact s.sendAll_nil.symm

/-- The Line Interface at a beat (R149, R155, R156). -/
theorem State.lineBeat_eq (s : State) : s.lineBeat =
    ({ s.mapStrands (fun _ => Strand.silenceCounted) with retired := s.countRetired.retired }.sendAll
      (s.beatFrames ++ s.originFrames strandIds)).raiseOriginate (strandIds.filter s.startsOriginating) := by
  unfold State.lineBeat
  rw [State.sendBeat_eq, forStrands_originStep strandIds_nodup]
  unfold State.originated
  simp only [mem_strandIds, if_true]
  rw [← State.sendAll_append]
  rfl

/-- The row ORIGINATE at the second silent beat (R155). -/
theorem exec_originate {s : State} {k : StrandId} {base : Nat} (hb : s.config.slotBase = some base)
    (hd : (s.ctx k).driving = true) (h : (s.strand k).silence = 1) : exec (.originate k) s =
    .next (((s.withStrand k { s.strand k with silence := 2, originating := true }).raise .originate (some k) 0).send
      (originatedFrame s.config.node (actuatorSlot base k) (s.strand k))) := by
  have hcounted : (s.strand k).silenceCounted = { s.strand k with silence := 2, originating := true } := by
    unfold Strand.silenceCounted
    rw [if_pos ⟨hd, by omega⟩, h]
    simp
  have horiginates : s.originates k = true := by
    unfold State.originates
    rw [hd, hcounted]
    rfl
  change execOriginate k s = _
  unfold execOriginate
  rw [if_pos (by rw [h]), State.originStep_driving hd (if_pos h).symm, State.originFrames_single hb horiginates, ← hcounted]
  rfl

/-- Settles O37: the words of the status slot, the Line Interface at a beat, and the rows ORIGINATE and RETIRED_NODE_CLEAR. -/
theorem statusOriginationAndRetirement : Obligations.StatusOriginationAndRetirement := by
  refine ⟨fun s f hu => ⟨?row, s.statusWords_length, State.statusWords_loading, fun hl => ?words⟩, fun s => ?beat,
    fun s k base hb hd h => exec_originate hb hd h, fun s r hr hbeats => ?retired⟩
  case row =>
    change execStatusSlotFrame f s = _
    rw [execStatusSlotFrame, hu]
    rfl
  case words =>
    intro flag segment speed demand part summary owned watched total
    have hconfig : s.config = s.working.config := if_neg (ne_true_of_eq_false hl)
    have howned : ∀ k, s.config.inMask k = owned k := fun k => by rw [hconfig]; rfl
    have hsummaries : (strandIds.map fun k => if s.config.inMask k = true then (s.strand k).summary else 0)
        = (strandIds.map fun k => if owned k = true then summary (s.strand k) else 0).map word := by
      rw [List.map_map]
      refine List.map_congr_left fun k _ => ?_
      rw [howned, Function.comp_apply, apply_ite word]
      rfl
    have hspeed : ∀ x : Strand, x.outputSpeed = speed x := fun x => by
      unfold Strand.outputSpeed speed
      cases x.ctx.state <;> rfl
    have hsegment : ∀ x : Strand, segIndexCode x.ctx.segment = segment x := fun x => by
      unfold segIndexCode segment
      rcases x.ctx.segment with _ | _ | _ <;> rfl
    have hwatch : s.watchBlock = watched.map word := by
      unfold State.watchBlock watched
      cases s.watch with
      | none => rfl
      | some k =>
        have htarget : (s.strand k).ctx.target.getD 0 = (match (s.ctx k).target with | some v => v | none => 0) := by
          unfold State.ctx
          cases (s.strand k).ctx.target <;> rfl
        dsimp only
        rw [howned, hspeed, htarget, hsegment, apply_ite (List.map word)]
        rfl
    have hpart : s.partWord = word part := State.partWord_running hl
    unfold State.statusWords
    rw [if_neg (ne_true_of_eq_false hl), hpart, hsummaries, hwatch, List.map_append, List.map_append, List.map_cons]
    rfl
  case beat =>
    intro starts counted beat frames
    have hretired : s.countRetired.retired = (match s.retired with
        | none => none
        | some r => if 4 ≤ r.beats + 1 then none else some { r with beats := r.beats + 1 }) := by
      unfold State.countRetired
      cases s.retired <;> rfl
    have hbeat : s.beatFrames = beat := rfl
    have hframes : s.originFrames strandIds = frames := by
      unfold State.originFrames frames
      cases s.config.slotBase <;> rfl
    rw [State.lineBeat_eq, hretired, hbeat, hframes]
    rfl
  case retired =>
    change execRetiredNodeClear s = _
    unfold execRetiredNodeClear State.countRetired
    rw [hr, if_pos (by simp [hbeats])]
    simp [hbeats]

end Sys2Proof.Machine

/-! The edit latch, PROTECT_SET, and the store operations from their acceptance to their ends (R160, R164 to R166). -/

namespace Sys2Proof.Machine

/-! ## No store operation in progress -/

theorem State.not_busy {s : State} (h : s.op = .idle) : ¬ s.busy = true := fun hb => State.busy_iff.mp hb h

/-! ## PROTECT_SET -/

/-- A protect lock stands only in a stored image that is neither blank nor INCOMPLETE (R164). -/
theorem State.storedProtectLock_iff {s : State} : s.storedProtectLock = true ↔
    ∃ i, s.stored = some i ∧ s.incomplete = false ∧ i.config.protectLock = true := by
  unfold State.storedProtectLock
  cases s.stored <;> simp

section
variable {s : State} {range cooling lock : Word} {key : KeyPos}

/-- PROTECT_SET while the edit latch is open and no store operation is in progress (R164). -/
theorem protectSetBody_editing (ho : s.latchOpen = true) (hi : s.op = .idle) : protectSetBody range cooling lock key s =
    if s.storedProtectLock = true ∧ key = .run then .error .locked
    else if 7 < range.toNat ∨ 1 < cooling.toNat ∨ 1 < lock.toNat then .error .range
    else .ok (s.setConfig fun c =>
      { c with rangeCode := range.toNat, coolingFlag := cooling ≠ 0, protectLock := lock ≠ 0 }, []) := by
  unfold protectSetBody
  rw [if_neg (not_not.mpr ho), if_neg (State.not_busy hi)]
  refine ite_congr rfl (fun _ => rfl) fun _ => ?_
  split
  · next hr hc hl =>
    obtain ⟨rfl, -, hr⟩ := rangeWord_eq_some.mp hr
    obtain ⟨hc, rfl⟩ := flagWord_eq_some.mp hc
    obtain ⟨hl, rfl⟩ := flagWord_eq_some.mp hl
    exact (if_neg (by omega)).symm
  · next hout =>
    refine (if_pos ?_).symm
    by_contra hin
    exact hout _ _ _ (rangeWord_eq_some.mpr ⟨rfl, Nat.zero_le _, by omega⟩) (flagWord_eq_some.mpr ⟨by omega, rfl⟩)
      (flagWord_eq_some.mpr ⟨by omega, rfl⟩)

end

/-- Settles O44: the latch by the store operation in progress, and the checks of PROTECT_SET in their order. -/
theorem latchAndProtection : Obligations.LatchAndProtection := by
  intro s q ha
  refine ⟨fun hb => ?_, fun hi => ?_, congrArg Host.Outcome.next (State.answer_ok ha rfl), ?_⟩
  · exact congrArg Host.Outcome.next (State.answer_error ha (if_pos (State.busy_iff.mpr hb)))
  · exact congrArg Host.Outcome.next (State.answer_ok ha (if_neg (State.not_busy hi)))
  intro range cooling lock key go s1 locked
  have refused : ∀ {r}, protectSetBody range cooling lock key s1 = .error r → go = .next (s1.reply 28 q r []) := fun h =>
    congrArg Host.Outcome.next (State.answer_error (s := s1) ha h)
  have hlocked : s1.storedProtectLock = true ∧ key = .run ↔ locked := and_congr_left' State.storedProtectLock_iff
  refine ⟨fun hc => refused (if_pos (ne_true_of_eq_false hc)), fun ho hb => refused ?_, fun ho hi hl => refused ?_,
    fun ho hi hl hw => refused ?_, fun ho hi hl hr hcool hlock => ?_⟩
  · exact (if_neg (not_not.mpr ho)).trans (if_pos (State.busy_iff.mpr hb))
  · rw [protectSetBody_editing (s := s1) ho hi, if_pos (hlocked.mpr hl)]
  · rw [protectSetBody_editing (s := s1) ho hi, if_neg (hl ∘ hlocked.mp), if_pos hw]
  · refine congrArg Host.Outcome.next (State.answer_ok (s := s1) ha ?_)
    rw [protectSetBody_editing (s := s1) ho hi, if_neg (hl ∘ hlocked.mp), if_neg (by omega)]

/-! ## Store operations -/

section
variable {s : State}

/-- A closed latch refuses both store operations (R165, R166). -/
theorem storeBody_closed (h : s.latchOpen = false) :
    commitBody s = .error .closed ∧ limitsLockBody s = .error .closed :=
  ⟨if_pos (ne_true_of_eq_false h), if_pos (ne_true_of_eq_false h)⟩

/-- A store operation in progress refuses another (R165, R166). -/
theorem storeBody_busy (ho : s.latchOpen = true) (hb : s.op ≠ .idle) :
    commitBody s = .error .busy ∧ limitsLockBody s = .error .busy :=
  ⟨(if_neg (not_not.mpr ho)).trans (if_pos (State.busy_iff.mpr hb)),
    (if_neg (not_not.mpr ho)).trans (if_pos (State.busy_iff.mpr hb))⟩

section
variable (ho : s.latchOpen = true) (hi : s.op = .idle)
include ho hi

theorem commitBody_editing : commitBody s = .ok ({ s with incomplete := true, op := .commit s.commitImage }, []) :=
  (if_neg (not_not.mpr ho)).trans (if_neg (State.not_busy hi))

/-- LIMITS_LOCK while the edit latch is open and no store operation is in progress (R166). -/
theorem limitsLockBody_editing : limitsLockBody s =
    if s.oneTime.isSome then .error .locked
    else match s.limits with
      | none => .error .noLimits
      | some l => .ok ({ s with op := .lock l }, []) :=
  (if_neg (not_not.mpr ho)).trans (if_neg (State.not_busy hi))

end

end

/-- Settles O49: the checks of COMMIT and LIMITS_LOCK in their order, and the end of the operation in progress. -/
theorem storeOperationsBeginAndEnd : Obligations.StoreOperationsBeginAndEnd := by
  intro s q ha
  have refused : ∀ (code : Word) {body : State → Answer} {r : Result}, body s = .error r →
      (.next (s.answer code q body) : Outcome) = .next (s.reply code q r []) :=
    fun _ _ _ h => congrArg _ (State.answer_error ha h)
  have accepted : ∀ (code : Word) {body : State → Answer} {t : State}, body s = .ok (t, []) →
      (.next (s.answer code q body) : Outcome) = .next (t.reply code q .ok []) :=
    fun _ _ _ h => congrArg _ (State.answer_ok ha h)
  refine ⟨fun hc => ?_, fun ho hb => ?_, fun ho hi hn => accepted 27 ?_, fun l ho hi hl => ⟨accepted 27 ?_, refused 29 ?_⟩,
    fun ho hi hn hlim => refused 29 ?_, fun l ho hi hn hlim => accepted 29 ?_, fun i hop => ?_, fun l hop => ?_⟩
  · obtain ⟨hcommit, hlock⟩ := storeBody_closed hc
    exact ⟨refused 27 hcommit, refused 29 hlock⟩
  · obtain ⟨hcommit, hlock⟩ := storeBody_busy ho hb
    exact ⟨refused 27 hcommit, refused 29 hlock⟩
  · rw [commitBody_editing ho hi, State.commitImage, hn]
  · rw [commitBody_editing ho hi, State.commitImage, hl]
  · rw [limitsLockBody_editing ho hi, hl]
    rfl
  · rw [limitsLockBody_editing ho hi, hn, hlim]
    rfl
  · rw [limitsLockBody_editing ho hi, hn, hlim]
    rfl
  · change execCommitDone s = _
    rw [execCommitDone, hop]
  · change execLockDone s = _
    rw [execLockDone, hop]

end Sys2Proof.Machine

/-! The bounds of the alarm queue and of the counters (R168, R170): the alarms and counts, and the events of the blocks. -/

namespace Sys2Proof.Machine

/-! ## Alarms and counts -/

/-- The alarm queue and the counters are within their bounds (R168, R170). -/
def State.bounded (s : State) : Prop := s.alarmsSound ∧ s.counters.sound

theorem satInc_le (n : Nat) : satInc n ≤ 65535 := Nat.min_le_right _ _

/-- Counters at zero beside the trip counters, as a cleared group 0 leaves them (R170). -/
theorem Counters.sound_zero {trips : Vector Nat 8} (h : ∀ k : StrandId, trips[k] ≤ 65535) :
    Counters.sound { trips } :=
  ⟨Nat.zero_le _, Nat.zero_le _, Nat.zero_le _, Nat.zero_le _, Nat.zero_le _, Nat.zero_le _, h⟩

/-- Trip counters at zero, as a cleared group 1 leaves them (R170). -/
theorem trips_zero_le (k : StrandId) : (Vector.replicate 8 0)[k] ≤ 65535 := by simp

section
variable {c : Counters} (hc : c.sound)
include hc

theorem Counters.sound_trips {trips : Vector Nat 8} (h : ∀ k : StrandId, trips[k] ≤ 65535) : { c with trips }.sound := by
  obtain ⟨h1, h2, h3, h4, h5, h6, -⟩ := hc
  exact ⟨h1, h2, h3, h4, h5, h6, h⟩

theorem Counters.sound_trip (k : StrandId) : { c with trips := c.trips.set k (satInc c.trips[k]) }.sound := by
  refine Counters.sound_trips hc fun j => ?_
  obtain ⟨-, -, -, -, -, -, htrips⟩ := hc
  by_cases hj : k.val = j.val
  · simp [hj, satInc_le]
  · simpa [Vector.getElem_set_ne, hj] using htrips j

theorem Counters.sound_badCheck : { c with badCheck := satInc c.badCheck }.sound := by
  obtain ⟨-, h⟩ := hc
  exact ⟨satInc_le _, h⟩

theorem Counters.sound_malformed : { c with malformed := satInc c.malformed }.sound := by
  obtain ⟨h1, -, h⟩ := hc
  exact ⟨h1, satInc_le _, h⟩

theorem Counters.sound_badRequest : { c with badRequest := satInc c.badRequest }.sound := by
  obtain ⟨h1, h2, -, h⟩ := hc
  exact ⟨h1, h2, satInc_le _, h⟩

theorem Counters.sound_alarmOverflow : { c with alarmOverflow := satInc c.alarmOverflow }.sound := by
  obtain ⟨h1, h2, h3, -, h⟩ := hc
  exact ⟨h1, h2, h3, satInc_le _, h⟩

theorem Counters.sound_irregularBeats : { c with irregularBeats := satInc c.irregularBeats }.sound := by
  obtain ⟨h1, h2, h3, h4, -, h⟩ := hc
  exact ⟨h1, h2, h3, h4, satInc_le _, h⟩

theorem Counters.sound_claimsRefused : { c with claimsRefused := satInc c.claimsRefused }.sound := by
  obtain ⟨h1, h2, h3, h4, h5, -, h⟩ := hc
  exact ⟨h1, h2, h3, h4, h5, satInc_le _, h⟩

end

section
variable {s t : State}

/-- An alarm joins a queue that has room, and is counted otherwise (R168). -/
theorem State.bounded.raise (hs : s.bounded) (a : AlarmKind) (o : Option StrandId) (d : Nat) : (s.raise a o d).bounded := by
  obtain ⟨halarms, hcounters⟩ := hs
  refine ⟨State.raise_length s a o d halarms, ?_⟩
  unfold State.raise
  split
  · exact hcounters
  · exact Counters.sound_alarmOverflow hcounters

theorem State.bounded.moveChange (hs : s.bounded) (c : ChangeState) : (s.moveChange c).bounded :=
  State.bounded.raise (s := { s with change := c }) hs _ _ _

/-- An event that changes strand records alone leaves the queue and the counters as they are. -/
theorem State.bounded.sameRest (hs : s.bounded) (h : s.sameRest t) : t.bounded := by
  unfold State.sameRest at h
  rw [h]
  exact hs

/-- A choice between two events, each of which leaves the queue and the counters within their bounds. -/
theorem State.bounded_ite {p : Prop} [Decidable p] (hs : p → s.bounded) (ht : ¬ p → t.bounded) :
    (if p then s else t).bounded := by
  split
  · next h => exact hs h
  · next h => exact ht h

theorem forStrands_bounded {f : StrandId → State → State} (h : ∀ k t, State.bounded t → State.bounded (f k t))
    (l : List StrandId) (hs : s.bounded) : (forStrands l f s).bounded :=
  forStrands_induct State.bounded l f (fun k _ t => h k t) s hs

/-! ## Trips -/

theorem State.tripOne_bounded (why : Cause) (k : StrandId) (s : State) (hs : s.bounded) : (s.tripOne why k).bounded := by
  have hcounted : ((s.upd k (Strand.enterTripped why s.tripGrant)).count fun c =>
      { c with trips := c.trips.set k (satInc c.trips[k]) }).bounded := ⟨hs.1, Counters.sound_trip hs.2 k⟩
  have hleft : (s.upd k Strand.enterTracking).bounded := hs
  unfold State.tripOne
  exact State.bounded_ite (fun _ => hcounted.raise _ _ _) fun _ =>
    State.bounded_ite (fun _ => hleft.raise _ _ _) fun _ => hs

theorem State.settleChange_bounded (hs : s.bounded) : s.settleChange.bounded :=
  State.bounded_ite (fun _ => hs.moveChange _) fun _ => hs

theorem State.trips_bounded (why : Cause) (ks : List StrandId) (hs : s.bounded) :
    (forStrands ks (State.tripOne why) s).bounded :=
  forStrands_bounded (State.tripOne_bounded why) ks hs

theorem State.tripAll_bounded (why : Cause) (ks : List StrandId) (hs : s.bounded) : (s.tripAll why ks).bounded :=
  State.settleChange_bounded (State.trips_bounded why ks hs)

/-! ## Segments and the change override -/

theorem State.enterSegment_sameRest (k : StrandId) (n : Fin 8) (s : State) : s.sameRest (s.enterSegment k n) := by
  unfold State.enterSegment
  split
  · rfl
  · dsimp only
    split <;> rfl

theorem State.reload_sameRest (k : StrandId) (s : State) : s.sameRest (s.reload k) := by
  unfold State.reload
  split
  · exact State.enterSegment_sameRest k _ s
  · split <;> rfl

/-! ## The Change Coordinator (R96 to R101) -/

theorem State.releaseChange_bounded (hs : s.bounded) : s.releaseChange.bounded :=
  (forStrands_bounded (f := fun k s => s.upd k Strand.released) (fun _ _ h => h) s.enrolledSet hs).moveChange _

theorem State.toAtLow_bounded (hs : s.bounded) : s.toAtLow.bounded :=
  (forStrands_bounded (s := { s with change := .atLow }) (f := fun k s => (s.updCtx k (Context.addReason .change)).reload k)
    (fun k t ht => State.bounded.sameRest (s := t.updCtx k _) ht (State.reload_sameRest k _)) s.enrolledSet hs).raise _ _ _

theorem State.cancelLowering_bounded (hs : s.bounded) : s.cancelLowering.bounded :=
  (forStrands_bounded (s := { s with change := .clear }) (f := fun k s => (s.reload k).upd k Strand.released)
    (fun k t ht => have hreloaded : (t.reload k).bounded := ht.sameRest (State.reload_sameRest k t); hreloaded)
    s.enrolledSet hs).raise _ _ _

theorem State.expireLowering_bounded (hs : s.bounded) : s.expireLowering.bounded := by
  have htrips := State.trips_bounded .changeLate s.laggards hs
  exact State.bounded_ite (fun _ => State.toAtLow_bounded htrips) fun _ => htrips.moveChange _

theorem State.expireSwap_bounded (hs : s.bounded) : s.expireSwap.bounded :=
  (State.trips_bounded .swapTimeout s.enrolledSet hs).moveChange _

theorem State.changeBeat_bounded (hs : s.bounded) : s.changeBeat.bounded := by
  have hlowering : s.countLowering.bounded := hs
  have hswap : s.countSwap.bounded := hs
  unfold State.changeBeat
  split
  · exact State.bounded_ite (fun _ => State.toAtLow_bounded hs) fun _ =>
      State.bounded_ite (fun _ => State.expireLowering_bounded hlowering) fun _ => hlowering
  · exact State.bounded_ite (fun _ => State.expireSwap_bounded hswap) fun _ => hswap
  · exact hs
  · exact hs

theorem State.takeWeight_bounded (w : Nat) (hs : s.bounded) : (s.takeWeight w).bounded := by
  have hcleared : State.bounded { s with swapCount := 0 } := hs
  unfold State.takeWeight
  split
  · exact State.bounded_ite (fun _ => hcleared.moveChange _) fun _ => hs
  · exact State.bounded_ite (fun _ => State.releaseChange_bounded hs) fun _ => hs
  · exact hs
  · exact hs

/-! ## The Dip Monitor (R107, R108, R111, R112) -/

theorem State.dipBegin_bounded (hs : s.bounded) : s.dipBegin.bounded :=
  (forStrands_bounded (s := { s with dip := .dipped, dipCount := 0 }) (f := fun k s => s.updCtx k Context.receiveDip)
    (fun _ _ h => h) _ hs).raise _ _ _

theorem State.reseedStrand_sameRest (k : StrandId) (s : State) : s.sameRest (s.reseedStrand k) := by
  unfold State.reseedStrand
  dsimp only
  exact ((State.sameRest_upd s k _).trans (State.enterSegment_sameRest k _ _)).trans (State.sameRest_upd _ k _)

theorem State.dipEnd_bounded (hs : s.bounded) : s.dipEnd.bounded :=
  (forStrands_bounded (s := { s with dip := .normal })
    (fun k t ht => ht.sameRest (State.reseedStrand_sameRest k t)) _ hs).raise _ _ _

theorem State.takeDipFlag_bounded (before now : Bool) (hs : s.bounded) : (s.takeDipFlag before now).bounded := by
  unfold State.takeDipFlag
  split
  · exact State.dipBegin_bounded hs
  · exact State.dipEnd_bounded hs
  · exact hs

theorem State.dipBeat_bounded (hs : s.bounded) : s.dipBeat.bounded := by
  have hcounted : s.countDip.bounded := hs
  unfold State.dipBeat
  split
  · exact hs
  · exact State.bounded_ite (fun _ => State.tripAll_bounded _ _ hcounted) fun _ => hcounted

/-! ## The Input Monitor (R75 to R89) -/

theorem State.raiseLoss_bounded (o : Option StrandId) (n : Nat) (a b : LossState) (hs : s.bounded) :
    (s.raiseLoss o n a b).bounded := by
  rcases State.raiseLoss_cases s o n a b with e | ⟨_, _, e⟩ <;> rw [e]
  · exact hs
  · exact hs.raise _ _ _

theorem State.setInput_bounded (k : StrandId) (after : StrandInput) (hs : s.bounded) : (s.setInput k after).bounded :=
  State.raiseLoss_bounded _ _ _ _ (State.raiseLoss_bounded (s := s.upd k _) _ _ _ _ hs)

/-- A change of an input record, with its alarms and the change of SENSOR it brings (R77, R79, R80, R84). -/
theorem State.sense_bounded (k : StrandId) (before after : StrandInput) (hs : s.bounded) :
    ((s.setInput k after).updCtx k (Context.sensorChange before after)).bounded :=
  State.setInput_bounded k after hs

theorem State.setPlantInput_bounded (after : PlantInput) (hs : s.bounded) : (s.setPlantInput after).bounded :=
  State.raiseLoss_bounded (s := { s with plantIn := after }) _ _ _ _ hs

theorem State.takeBreakout_bounded (k : StrandId) (before flag : Bool) (hs : s.bounded) :
    (s.takeBreakout k before flag).bounded := by
  refine State.bounded_ite (fun _ => ?_) fun _ => hs
  split
  iterate 3 exact State.tripAll_bounded _ _ hs
  · exact State.bounded_ite (fun _ => hs) fun _ => hs.raise _ _ _
  · exact hs
  · exact hs

theorem State.takeConfirm_sameRest (k : StrandId) (flag : Bool) (s : State) : s.sameRest (s.takeConfirm k flag) := by
  unfold State.takeConfirm
  split
  · split <;> rfl
  · rfl

theorem State.levelGate_bounded (k : StrandId) (level : Int) (hs : s.bounded) : (s.levelGate k level).bounded := by
  refine State.bounded_ite (fun _ => ?_) fun _ => hs
  exact State.bounded_ite (fun _ => State.tripAll_bounded (s := s.updCtx k _) _ _ hs) fun _ => hs

theorem State.takeSensor_bounded (k : StrandId) (x : SensorReading) (hs : s.bounded) : (s.takeSensor k x).bounded := by
  refine State.bounded_ite (fun _ => hs) fun _ => State.levelGate_bounded k _ ?_
  refine State.bounded.sameRest (s := State.updCtx _ k _) ?_ (State.takeConfirm_sameRest k _ _)
  exact State.takeBreakout_bounded k _ _ (State.setInput_bounded k _ hs)

theorem State.takePlant_bounded (x : PlantReading) (hs : s.bounded) : (s.takePlant x).bounded := by
  refine State.bounded_ite (fun _ => hs) fun _ => ?_
  have hset := State.setPlantInput_bounded (s.plantIn.take s.plant x) hs
  exact State.bounded_ite (fun _ => State.takeWeight_bounded _ (State.takeDipFlag_bounded _ _ hset)) fun _ => hset

theorem State.inputBeat_bounded (hs : s.bounded) : s.inputBeat.bounded :=
  State.setPlantInput_bounded _ (forStrands_bounded (f := State.ageStrand)
    (fun k _ ht => State.sense_bounded k _ _ ht) strandIds hs)

theorem State.countFollow_bounded (acc : Nat) (k : StrandId) (hs : s.bounded) : (s.countFollow acc k).bounded :=
  State.bounded_ite (fun _ => hs) fun _ => hs

theorem State.followBeat_bounded (i : Nat) (acc : StrandId → Nat) (hs : s.bounded) : (s.followBeat i acc).bounded :=
  State.tripAll_bounded _ _ (forStrands_bounded (f := fun k s => s.countFollow (acc k) k)
    (fun k _ ht => State.countFollow_bounded (acc k) k ht) strandIds hs)

/-! ## Handback and claims (R133 to R142) -/

theorem State.shadowReturn_bounded (k : StrandId) (hs : s.bounded) : (s.shadowReturn k).bounded :=
  State.bounded.raise (s := s.upd k _) hs _ _ _

theorem State.leaveByHandback_bounded (k : StrandId) (hs : s.bounded) : (s.leaveByHandback k).bounded :=
  State.bounded_ite (fun _ => State.shadowReturn_bounded k hs) fun _ => hs

theorem State.completeBlend_bounded (k : StrandId) (claim : Bool) (hs : s.bounded) : (s.completeBlend k claim).bounded := by
  have hdone := State.bounded.raise (s := s.upd k fun x => { x.enterTracking with claimDue := x.claimDue || claim }) hs
    .handbackDone (some k) 0
  exact State.bounded_ite (fun _ => hdone.raise _ _ _) fun _ => hdone

theorem State.blendStep_bounded (k : StrandId) (s : State) (hs : s.bounded) : (s.blendStep k).bounded := by
  unfold State.blendStep
  split
  · exact State.bounded_ite (fun _ => State.completeBlend_bounded (s := s.upd k _) k _ hs) fun _ => hs
  · exact hs

theorem State.grantClaim_bounded (k : StrandId) (hs : s.bounded) : (s.grantClaim k).bounded :=
  (State.settleChange_bounded (s := s.upd k _) hs).raise _ _ _

theorem State.takeClaim_bounded (k : StrandId) (hs : s.bounded) : (s.takeClaim k).state.bounded := by
  unfold State.takeClaim
  split
  · exact State.grantClaim_bounded k hs
  · split
    · exact hs
    · exact ⟨hs.1, Counters.sound_claimsRefused hs.2⟩
    · exact hs

/-! ## The admission pass (R60 to R71) -/

theorem State.completionTest_bounded (k : StrandId) (s : State) (hs : s.bounded) : (s.completionTest k).bounded := by
  rcases State.completionTest_cases k s with
    ⟨h, -⟩ | ⟨p, n, -, -, -, -, -, ⟨n', -, h⟩ | ⟨-, -, h⟩ | ⟨-, -, -, h⟩ | ⟨-, -, -, h⟩⟩ <;> rw [h]
  · exact hs
  · exact hs.sameRest (State.enterSegment_sameRest k n' s)
  · exact State.bounded.raise (s := s.updCtx k _) hs _ _ _
  · exact hs
  · exact State.bounded.raise (s := s.upd k _) hs _ _ _

theorem State.passCompleted_bounded (i : Nat) (hs : s.bounded) : (s.passCompleted i).bounded := by
  have hblended : (s.passBlended i).bounded :=
    forStrands_bounded (s := { s with budget := s.formBudget }) State.blendStep_bounded _ hs
  have hdwelt : (s.passDwelt i).bounded :=
    forStrands_bounded (f := fun k s => s.updCtx k Context.countDwell) (fun _ _ h => h) strandIds hblended
  have hresults : (s.passResults i).bounded :=
    hdwelt.sameRest ((State.phases_sameRest _).trans (State.takeResults_sameRest _ _))
  exact forStrands_bounded State.completionTest_bounded _ hresults

theorem State.movePointer_bounded (won : List StrandId) (hs : s.bounded) : (s.movePointer won).bounded := by
  unfold State.movePointer
  split <;> exact hs

theorem State.raiseStarved_bounded (l : List (StrandId × Bool)) (hs : s.bounded) : (s.raiseStarved l).bounded := by
  unfold State.raiseStarved
  induction l generalizing s with
  | nil => exact hs
  | cons ks l ih => exact ih (hs.raise _ _ _)

theorem State.countDeficit_bounded (hs : s.bounded) : s.countDeficit.bounded := by
  have hcounted : ∀ n, State.bounded { s with deficit := n } := fun _ => hs
  exact State.bounded_ite (fun _ => State.bounded_ite (fun _ => (hcounted _).raise _ _ _) fun _ => hcounted _)
    fun _ => hcounted 0

theorem State.admissionPass_bounded (i : Nat) (hs : s.bounded) : (s.admissionPass i).bounded :=
  State.countDeficit_bounded (State.raiseStarved_bounded _ (State.movePointer_bounded _ (State.passCompleted_bounded i hs)))

/-! ## Beats (R119 to R125, R155, R156) -/

theorem State.originStep_bounded (k : StrandId) (s : State) (hs : s.bounded) : (s.originStep k).bounded := by
  refine State.bounded_ite (fun _ => ?_) fun _ => hs
  have hcounted : (s.upd k Strand.countSilence).bounded := hs
  have htold := State.bounded_ite (p := (s.strand k).silence + 1 = 2) (fun _ => hcounted.raise .originate (some k) 0)
    fun _ => hcounted
  dsimp only
  split <;> exact htold

theorem State.lineBeat_bounded (hs : s.bounded) : s.lineBeat.bounded := by
  have hsent : s.countRetired.sendBeat.bounded := State.bounded_ite (fun _ => hs) fun _ => hs
  exact forStrands_bounded State.originStep_bounded strandIds hsent

theorem State.blockBeat_bounded (i : Nat) (acc : StrandId → Nat) (b : Block) (hs : s.bounded) :
    (s.blockBeat i acc b).bounded := by
  cases b with
  | sequencer => exact State.followBeat_bounded i acc hs
  | arbiter => exact State.admissionPass_bounded i hs
  | inputMonitor => exact State.inputBeat_bounded hs
  | changeCoordinator => exact State.changeBeat_bounded hs
  | dipMonitor => exact State.dipBeat_bounded hs
  | lineInterface => exact State.lineBeat_bounded hs

theorem State.blocks_bounded (i : Nat) (acc : StrandId → Nat) (order : List Block) (hs : s.bounded) :
    (order.foldl (State.blockBeat i acc) s).bounded := by
  induction order generalizing s with
  | nil => exact hs
  | cons b order ih => exact ih (State.blockBeat_bounded i acc b hs)

theorem State.deliverBeat_bounded (hs : s.bounded) : s.deliverBeat.bounded :=
  State.blocks_bounded (s := { s with beats := s.beats + 1, fresh := s.fresh + 1 }) _ _ _ hs

theorem State.setMonitor_bounded (src : Source) (m : Monitor) (hs : s.bounded) : (s.setMonitor src m).bounded := by
  cases src <;> exact hs

theorem State.clearFail_bounded (hs : s.bounded) : s.clearFail.bounded :=
  forStrands_bounded (s := { s with fail := false }) (f := fun k s => s.updCtx k (Context.removeReason .beat))
    (fun _ _ h => h) strandIds hs

theorem State.completeSwitch_bounded (src : Source) (hs : s.bounded) : (s.completeSwitch src).bounded := by
  have hbeaten : State.bounded { s with current := src }.deliverBeat := State.deliverBeat_bounded hs
  have hended : State.bounded { ({ s with current := src } : State).deliverBeat with switchTo := none } := hbeaten
  exact (State.bounded_ite (fun _ => State.clearFail_bounded hended) fun _ => hended).raise _ _ _

theorem State.sourceBeat_bounded (src : Source) (n : Nat) (hs : s.bounded) : (s.sourceBeat src n).bounded := by
  refine State.bounded_ite (fun _ => hs) fun _ => ?_
  have htaken : (((s.setMonitor src ((s.monitor src).beat s.period n)).atTime n)).bounded :=
    State.setMonitor_bounded src _ hs
  refine State.bounded_ite (fun _ => State.deliverBeat_bounded ?_) fun _ => ?_
  · exact State.bounded_ite (fun _ => ⟨htaken.1, Counters.sound_irregularBeats htaken.2⟩) fun _ => htaken
  · exact State.bounded_ite (fun _ => State.completeSwitch_bounded src htaken) fun _ => htaken

theorem State.localBeat_bounded (hs : s.bounded) : s.localBeat.bounded := by
  unfold State.localBeat
  split
  · exact hs
  · next n _ =>
    have hexpired : ({ s with localNext := some (n + 1000 * s.period) }.atTime n).bounded := hs
    exact State.bounded_ite (fun _ => State.deliverBeat_bounded hexpired) fun _ =>
      State.bounded_ite (fun _ => State.completeSwitch_bounded _ hexpired) fun _ => hexpired

theorem State.failover_bounded (src : Source) (hs : s.bounded) : (s.failover src).bounded :=
  (forStrands_bounded (s := { s with current := .localGen, fail := true, switchTo := none })
    (f := fun k s => s.updCtx k (Context.addReason .beat)) (fun _ _ h => h) strandIds hs).raise _ _ _

theorem State.sourceSilence_bounded (src : Source) (hs : s.bounded) : (s.sourceSilence src).bounded := by
  refine State.bounded_ite (fun _ => hs) fun _ => ?_
  have hsilent : ((s.setMonitor src (s.monitor src).silence).atTime ((s.monitor src).ref + 3000 * s.period)).bounded :=
    State.setMonitor_bounded src _ hs
  exact State.bounded_ite (fun _ => State.failover_bounded src hsilent) fun _ => hsilent

/-! ## Frames of the owned slots (R152 to R154) -/

theorem State.sensorFrame_bounded (k : StrandId) (f : Frame) (hs : s.bounded) : (s.sensorFrame k f).bounded := by
  unfold State.sensorFrame
  split
  · exact State.bounded_ite (fun _ => hs) fun _ => State.takeSensor_bounded (s := s.send f) k _ hs
  · exact hs

theorem State.plantFrame_bounded (f : Frame) (hs : s.bounded) : (s.plantFrame f).bounded := by
  unfold State.plantFrame
  split
  · exact State.bounded_ite (fun _ => hs) fun _ => State.takePlant_bounded (s := s.send f) _ hs
  · exact hs

theorem State.sendActuator_bounded (k : StrandId) (f : Frame) (values : List Word) (control : Word) (granted : Bool)
    (hs : s.bounded) : (s.sendActuator k f values control granted).bounded :=
  State.bounded_ite (fun _ => hs) fun _ => hs

theorem State.actuatorFrame_bounded (k : StrandId) (f : Frame) (hs : s.bounded) : (s.actuatorFrame k f).bounded := by
  unfold State.actuatorFrame
  split
  · refine State.bounded_ite (fun _ => hs) fun _ => ?_
    refine State.sendActuator_bounded k f _ _ _ ?_
    split
    · exact State.takeClaim_bounded (s := s.upd k _) k hs
    · exact hs
  · exact hs

/-! ## The resets and the end of the load -/

theorem State.warmReset_bounded (s : State) : s.warmReset.bounded := ⟨Nat.zero_le _, Counters.sound_zero trips_zero_le⟩

theorem State.powerOn_bounded (s : State) : s.powerOn.bounded := ⟨Nat.zero_le _, Counters.sound_zero trips_zero_le⟩

theorem State.endLoad_bounded (n : Nat) (hs : s.bounded) : (s.endLoad n).bounded := by
  refine State.bounded_ite (fun _ => State.bounded.raise ?_ _ _ _) fun _ => ?_
  · exact hs
  · exact hs

end

end Sys2Proof.Machine

/-! Every request and every command, against the bounds of the alarm queue and of the counters (R168, R170). -/

namespace Sys2Proof.Machine

/-! ## Requests -/

/-- The owning rule of a request, where it accepts, leaves the queue and the counters within their bounds. -/
def Answer.bounded : Answer → Prop
  | .ok (t, _) => t.bounded
  | .error _ => True

section
variable {s t : State} {d : List Word} {r : Result} {a b : Answer} {p : Prop} [Decidable p]

/-- A check that refuses, before the rest of the owning rule. -/
theorem Answer.bounded_check (h : ¬ p → Answer.bounded a) : Answer.bounded (if p then .error r else a) := by
  split
  · trivial
  · next hp => exact h hp

/-- A choice between two rules of a request. -/
theorem Answer.bounded_ite (ha : Answer.bounded a) (hb : Answer.bounded b) : Answer.bounded (if p then a else b) := by
  split
  · exact ha
  · exact hb

/-- A rule that accepts a request under one condition alone. -/
theorem Answer.bounded_accept (ht : t.bounded) : Answer.bounded (if p then .ok (t, d) else .error r) :=
  Answer.bounded_ite ht trivial

end

section
variable {s : State} (hs : s.bounded)
include hs

/-- A request is answered by its owning rule, or refused without an effect on the queue and the counters (R148, R157). -/
theorem State.answer_bounded (code : Word) (q : ReqHead) {body : State → Answer} (h : Answer.bounded (body s)) :
    (s.answer code q body).bounded := by
  rcases State.answer_cases s code q body with ⟨-, e⟩ | ⟨-, -, e⟩ | ⟨-, -, ⟨r, -, e⟩ | ⟨t, d, hb, e⟩⟩ <;> rw [e]
  · exact hs
  · exact hs
  · exact hs
  · rw [hb] at h
    exact h

theorem State.refuse_bounded (code : Word) (q : ReqHead) (r : Result) :
    ((s.count fun c => { c with badRequest := satInc c.badRequest }).reply code q r []).bounded :=
  ⟨hs.1, Counters.sound_badRequest hs.2⟩

theorem State.answerSized_bounded (code : Word) (q : ReqHead) (ok : Bool) {body : State → Answer}
    (h : Answer.bounded (body s)) : (s.answerSized code q ok body).bounded :=
  State.bounded_ite (fun _ => hs) fun _ =>
    State.bounded_ite (fun _ => State.answer_bounded hs code q h) fun _ => State.refuse_bounded hs code q .length

theorem State.strandRequest_bounded (code : Word) (q : ReqHead) (w : Word) {body : StrandId → State → Answer}
    (h : ∀ k, Answer.bounded (body k s)) : (s.answer code q (State.strandRequest w body)).bounded := by
  refine State.answer_bounded hs code q ?_
  unfold State.strandRequest
  split
  · exact h _
  · trivial

/-! ### Strand requests -/

theorem trackBody_bounded (k : StrandId) : Answer.bounded (trackBody k s) := Answer.bounded_accept hs

theorem untrackBody_bounded (k : StrandId) : Answer.bounded (untrackBody k s) := Answer.bounded_accept hs

/-- An accepted START changes the strand's own records alone (R11 to R13). -/
theorem startBody_bounded (p sh : Word) (k : StrandId) : Answer.bounded (startBody p sh k s) := by
  refine Answer.bounded_check fun _ => Answer.bounded_check fun _ => ?_
  split
  · trivial
  · next lim hlim =>
    split
    · trivial
    · refine Answer.bounded_check fun _ => Answer.bounded_check fun _ => ?_
      split
      · trivial
      · change State.bounded _
        rw [State.beginRun_eq _ _ _ _ hlim]
        exact hs

theorem holdBody_bounded (k : StrandId) : Answer.bounded (holdBody k s) := Answer.bounded_accept hs

theorem releaseBody_bounded (k : StrandId) : Answer.bounded (releaseBody k s) := Answer.bounded_accept hs

theorem clearTripBody_bounded (k : StrandId) : Answer.bounded (clearTripBody k s) := Answer.bounded_accept hs

theorem coolPinBody_bounded (w : Word) (k : StrandId) : Answer.bounded (coolPinBody w k s) := by
  unfold coolPinBody
  split
  · trivial
  · exact hs
  · exact Answer.bounded_accept hs

theorem handbackBody_bounded (k : StrandId) : Answer.bounded (handbackBody k s) :=
  Answer.bounded_check fun _ => Answer.bounded_check fun _ => State.leaveByHandback_bounded k hs

/-! ### Requests to the arbiter, the coordinator and the Beat Unit -/

theorem setArbiterBody_bounded (m : Word) (pr : Vector Word 8) : Answer.bounded (setArbiterBody m pr s) := by
  refine Answer.bounded_check fun _ => ?_
  split
  · trivial
  · exact Answer.bounded_check fun _ => hs

theorem changeBeginBody_bounded : Answer.bounded (changeBeginBody s) :=
  Answer.bounded_check fun _ => Answer.bounded_check fun _ => Answer.bounded_check fun _ =>
    (forStrands_bounded (s := { s with loweringCount := 0 }) (f := State.enroll) (fun _ _ h => h) _ hs).moveChange _

theorem changeCancelBody_bounded : Answer.bounded (changeCancelBody s) := by
  unfold changeCancelBody
  split
  · exact State.cancelLowering_bounded hs
  · exact State.releaseChange_bounded hs
  · trivial
  · trivial

theorem swapConfirmBody_bounded : Answer.bounded (swapConfirmBody s) := by
  unfold swapConfirmBody
  split
  · exact State.releaseChange_bounded hs
  iterate 3 trivial

theorem sourceSelectBody_bounded (n keep : Word) : Answer.bounded (sourceSelectBody n keep s) := by
  refine Answer.bounded_check fun _ => ?_
  split
  · refine Answer.bounded_check fun _ => ?_
    have hkept : ∀ f (b : Bool), (if b then s.setConfig f else s).bounded := fun f b =>
      State.bounded_ite (fun _ => hs) fun _ => hs
    exact Answer.bounded_ite (hkept _ _) (hkept _ _)
  · trivial

theorem sourceCancelBody_bounded : Answer.bounded (sourceCancelBody s) := by
  unfold sourceCancelBody
  split
  · exact hs
  · trivial

theorem setBeatPeriodBody_bounded (p : Word) (n : Nat) : Answer.bounded (setBeatPeriodBody p n s) := by
  refine Answer.bounded_check fun _ => Answer.bounded_check fun _ => Answer.bounded_check fun _ => ?_
  split
  · trivial
  · exact hs

theorem failClearBody_bounded : Answer.bounded (failClearBody s) :=
  Answer.bounded_accept (State.bounded_ite (fun _ => State.clearFail_bounded hs) fun _ => hs)

/-! ### Requests to the store -/

theorem tableOpenBody_bounded : Answer.bounded (tableOpenBody s) := Answer.bounded_check fun _ => hs

/-- TABLE_WRITE replaces the working image alone (R161). -/
theorem State.writeTable_bounded (guarded inUse locked : Bool) (image : Option Image) :
    Answer.bounded (s.writeTable guarded inUse locked image) := by
  refine Answer.bounded_check fun _ => Answer.bounded_check fun _ => Answer.bounded_check fun _ =>
    Answer.bounded_check fun _ => Answer.bounded_check fun _ => ?_
  split
  · exact hs
  · trivial

theorem writeSegmentBody_bounded (n : Word) (fs : List Word) : Answer.bounded (writeSegmentBody n fs s) := by
  unfold writeSegmentBody
  split <;> exact State.writeTable_bounded hs _ _ _ _

theorem writeProfileBody_bounded (n : Word) (fs : List Word) : Answer.bounded (writeProfileBody n fs s) := by
  unfold writeProfileBody
  split <;> exact State.writeTable_bounded hs _ _ _ _

theorem writeCoolingBody_bounded (n : Word) (fs : List Word) : Answer.bounded (writeCoolingBody n fs s) := by
  unfold writeCoolingBody
  split <;> exact State.writeTable_bounded hs _ _ _ _

theorem tableReadBody_bounded (kind n : Word) : Answer.bounded (tableReadBody kind n s) := by
  unfold tableReadBody
  split
  · exact hs
  · trivial

theorem protectSetBody_bounded (r c l : Word) (key : KeyPos) : Answer.bounded (protectSetBody r c l key s) := by
  refine Answer.bounded_check fun _ => Answer.bounded_check fun _ => Answer.bounded_check fun _ => ?_
  split
  · exact hs
  · trivial

theorem commitBody_bounded : Answer.bounded (commitBody s) :=
  Answer.bounded_check fun _ => Answer.bounded_check fun _ => hs

theorem limitsLockBody_bounded : Answer.bounded (limitsLockBody s) := by
  refine Answer.bounded_check fun _ => Answer.bounded_check fun _ => Answer.bounded_check fun _ => ?_
  split
  · trivial
  · exact hs

/-! ### Requests to the line and to the alarm queue -/

theorem setNodeBody_bounded (n : Word) : Answer.bounded (setNodeBody n s) := by
  refine Answer.bounded_check fun _ => ?_
  split
  · trivial
  · exact Answer.bounded_ite hs hs

theorem State.resetDip_bounded : State.bounded { s with plantIn := {}, dip := .normal, dipCount := 0 } := hs

theorem setSlotBaseBody_bounded (b : Word) : Answer.bounded (setSlotBaseBody b s) := by
  refine Answer.bounded_check fun _ => Answer.bounded_check fun _ => ?_
  split
  · trivial
  · exact State.resetDip_bounded
      (forStrands_bounded (s := s.setConfig _) (f := fun k s => s.upd k Strand.unmap) (fun _ _ h => h) strandIds hs)

theorem setStrandMaskBody_bounded (m : Word) : Answer.bounded (setStrandMaskBody m s) := by
  refine Answer.bounded_check fun _ => ?_
  split
  · trivial
  · refine Answer.bounded_check fun _ => ?_
    exact forStrands_bounded (f := fun k s => s.upd k fun x => { x with input := {} }) (fun _ _ h => h) _
      (forStrands_bounded (s := s.setConfig _) (f := fun k s => s.upd k Strand.unmap) (fun _ _ h => h) _ hs)

/-- ALARM_POP takes records off the front of the queue (R169). -/
theorem alarmPopBody_bounded (n : Word) : Answer.bounded (alarmPopBody n s) := by
  unfold alarmPopBody
  split
  · trivial
  · exact ⟨(List.drop_sublist _ _).length_le.trans hs.1, hs.2⟩

/-- COUNTERS_READ leaves the counters of a group as they are, or at zero (R170). -/
theorem countersReadBody_bounded (n : Word) : Answer.bounded (countersReadBody n s) := by
  refine Answer.bounded_check fun _ => Answer.bounded_ite ?_ ?_ <;> refine State.bounded_ite (fun _ => ⟨hs.1, ?_⟩) fun _ => hs
  · exact Counters.sound_trips hs.2 trips_zero_le
  · obtain ⟨-, -, -, -, -, -, htrips⟩ := hs.2
    exact Counters.sound_zero htrips

theorem watchBody_bounded (w : Word) : Answer.bounded (watchBody w s) := by
  refine Answer.bounded_ite hs ?_
  split
  · exact hs
  · trivial

/-! ### The answer to a request -/

theorem State.partReset_bounded (q : ReqHead) :
    (if s.isOwn q.origin then s
      else if s.loading then s.reply 22 q .busy []
      else (s.reply 22 q .ok []).warmReset).bounded :=
  State.bounded_ite (fun _ => hs) fun _ => State.bounded_ite (fun _ => hs) fun _ => State.warmReset_bounded _

theorem State.runRequest_bounded (i : Instr) : (s.runRequest i).bounded := by
  cases i with
  | partReset q => exact State.partReset_bounded hs q
  | track q w => exact State.strandRequest_bounded hs _ _ w (trackBody_bounded hs)
  | untrack q w => exact State.strandRequest_bounded hs _ _ w (untrackBody_bounded hs)
  | start q w p sh => exact State.strandRequest_bounded hs _ _ w (startBody_bounded hs p sh)
  | hold q w => exact State.strandRequest_bounded hs _ _ w (holdBody_bounded hs)
  | release q w => exact State.strandRequest_bounded hs _ _ w (releaseBody_bounded hs)
  | clearTrip q w => exact State.strandRequest_bounded hs _ _ w (clearTripBody_bounded hs)
  | readContext q w => exact State.strandRequest_bounded hs _ _ w fun _ => hs
  | setArbiter q m pr => exact State.answer_bounded hs _ _ (setArbiterBody_bounded hs m pr)
  | coolPin q w t => exact State.strandRequest_bounded hs _ _ w (coolPinBody_bounded hs t)
  | changeBegin q => exact State.answer_bounded hs _ _ (changeBeginBody_bounded hs)
  | changeCancel q => exact State.answer_bounded hs _ _ (changeCancelBody_bounded hs)
  | swapConfirm q => exact State.answer_bounded hs _ _ (swapConfirmBody_bounded hs)
  | sourceSelect q n keep => exact State.answer_bounded hs _ _ (sourceSelectBody_bounded hs n keep)
  | sourceCancel q => exact State.answer_bounded hs _ _ (sourceCancelBody_bounded hs)
  | sourceFreeze q => exact State.answer_bounded hs _ _ hs
  | setBeatPeriod q p t => exact State.answer_bounded hs _ _ (setBeatPeriodBody_bounded hs p t)
  | failClear q => exact State.answer_bounded hs _ _ (failClearBody_bounded hs)
  | handback q w => exact State.strandRequest_bounded hs _ _ w (handbackBody_bounded hs)
  | setNode q n => exact State.answer_bounded hs _ _ (setNodeBody_bounded hs n)
  | setSlotBase q b => exact State.answer_bounded hs _ _ (setSlotBaseBody_bounded hs b)
  | setStrandMask q m => exact State.answer_bounded hs _ _ (setStrandMaskBody_bounded hs m)
  | tableOpen q => exact State.answer_bounded hs _ _ (tableOpenBody_bounded hs)
  | tableClose q => exact State.answer_bounded hs _ _ hs
  | tableWriteSegment q n fs => exact State.answerSized_bounded hs _ _ _ (writeSegmentBody_bounded hs n fs)
  | tableWriteProfile q n fs => exact State.answerSized_bounded hs _ _ _ (writeProfileBody_bounded hs n fs)
  | tableWriteCooling q n fs => exact State.answerSized_bounded hs _ _ _ (writeCoolingBody_bounded hs n fs)
  | tableWritePlant q n fs => exact State.answerSized_bounded hs _ _ _ (State.writeTable_bounded hs _ _ _ _)
  | tableWriteLimits q n fs => exact State.answerSized_bounded hs _ _ _ (State.writeTable_bounded hs _ _ _ _)
  | tableRead q kind n => exact State.answer_bounded hs _ _ (tableReadBody_bounded hs kind n)
  | commit q => exact State.answer_bounded hs _ _ (commitBody_bounded hs)
  | protectSet q r c l key =>
    exact State.answer_bounded (s := { s with key }) hs _ _ (protectSetBody_bounded (s := { s with key }) hs r c l key)
  | limitsLock q => exact State.answer_bounded hs _ _ (limitsLockBody_bounded hs)
  | alarmPop q n => exact State.answer_bounded hs _ _ (alarmPopBody_bounded hs n)
  | countersRead q fl => exact State.answer_bounded hs _ _ (countersReadBody_bounded hs fl)
  | watch q w => exact State.answer_bounded hs _ _ (watchBody_bounded hs w)
  | _ => exact hs

/-! ## Frames and rows -/

theorem State.requestFrame_bounded (f : Frame) : (s.requestFrame f).bounded := by
  unfold State.requestFrame
  split
  · exact State.refuse_bounded hs _ _ _
  · exact State.refuse_bounded hs _ _ _
  · exact State.runRequest_bounded hs _
  · exact State.answer_bounded hs _ _ (State.writeTable_bounded hs _ _ _ _)

theorem State.countBadCheck_bounded : s.countBadCheck.bounded := ⟨hs.1, Counters.sound_badCheck hs.2⟩

theorem State.countMalformed_bounded : s.countMalformed.bounded := ⟨hs.1, Counters.sound_malformed hs.2⟩

theorem State.receive_bounded (f : Frame) : (s.receive f).bounded := by
  unfold State.receive
  split
  · exact State.countBadCheck_bounded hs
  · exact hs
  · exact State.sourceBeat_bounded (s := s.send f) _ _ hs
  · exact State.plantFrame_bounded f hs
  · exact hs
  · exact State.sensorFrame_bounded _ f hs
  · exact State.actuatorFrame_bounded _ f hs
  · exact State.countMalformed_bounded hs
  · exact State.requestFrame_bounded hs f
  · exact hs

/-- An input row changes the record of the input it names, if its count is due (R77, R79). -/
theorem execInputSilence_bounded {t : State} (i : InputId) (h : execInputSilence i s = .next t) : t.bounded := by
  cases h
  cases i with
  | level k => exact State.bounded_ite (fun _ => State.sense_bounded k _ _ hs) fun _ => hs
  | feedback k => exact State.bounded_ite (fun _ => State.sense_bounded k _ _ hs) fun _ => hs
  | plant => exact State.bounded_ite (fun _ => State.setPlantInput_bounded _ hs) fun _ => hs

theorem execInputClear_bounded {t : State} (i : InputId) (h : execInputClear i s = .next t) : t.bounded := by
  cases h
  cases i with
  | level k => exact State.bounded_ite (fun _ => State.sense_bounded k _ _ hs) fun _ => hs
  | feedback k => exact State.bounded_ite (fun _ => State.sense_bounded k _ _ hs) fun _ => hs
  | plant => exact State.bounded_ite (fun _ => State.setPlantInput_bounded _ hs) fun _ => hs

/-- Every command leaves the queue and the counters within their bounds. -/
theorem exec_bounded {c : Instr} {t : State} (h : exec c s = .next t) : t.bounded := by
  have due : ∀ {p : Prop} [Decidable p] {u : State}, u.bounded → (if p then u else s).bounded := fun hu =>
    State.bounded_ite (fun _ => hu) fun _ => hs
  have received := State.receive_bounded hs
  cases hq : c.head with
  | some q =>
    rw [exec_request hq] at h
    cases h
    exact State.runRequest_bounded hs c
  | none =>
    cases c with
    | powerOnReset => cases h; exact State.powerOn_bounded s
    | startUpLoadDone n => cases h; exact due (State.endLoad_bounded n hs)
    | warmReset => cases h; exact State.warmReset_bounded s
    | commitDone => cases h; split; exacts [State.bounded.raise (by exact hs) _ _ _, hs]
    | lockDone => cases h; split; exacts [State.bounded.raise (by exact hs) _ _ _, hs]
    | unknownRequest f => cases h; split; exacts [State.requestFrame_bounded hs f, received f]
    | badCheckFrame words =>
      cases h
      split
      · exact State.countBadCheck_bounded hs
      · next f _ => exact received f
    | ownFrameReturn f => cases h; split; exacts [hs, received f]
    | passThroughFrame f => cases h; split; exacts [hs, received f]
    | malformedFrame f => cases h; split; exacts [State.countMalformed_bounded hs, received f]
    | beatFrame f n => cases h; split; exacts [State.sourceBeat_bounded (s := s.send f) _ n hs, received f]
    | pulseEdge n => cases h; exact State.sourceBeat_bounded .pulse n hs
    | localExpiry => cases h; exact State.localBeat_bounded hs
    | sourceSilent src => cases h; exact State.sourceSilence_bounded src hs
    | switchComplete n =>
      cases h
      split
      · exact hs
      · exact State.localBeat_bounded hs
      · exact due (State.sourceBeat_bounded _ n hs)
    | blendComplete k => cases h; split; exacts [due (State.blendStep_bounded k s hs), hs]
    | starved k => cases h; exact due (State.bounded.raise (s := s.updCtx k _) hs _ _ _)
    | deficit => cases h; exact due (State.countDeficit_bounded hs)
    | inputSilence i => exact execInputSilence_bounded hs i h
    | sensorSample f => cases h; split; exacts [State.sensorFrame_bounded _ f hs, received f]
    | levelFrozen k => cases h; exact due (State.sense_bounded k _ _ hs)
    | inputClear i => exact execInputClear_bounded hs i h
    | levelTrip k => cases h; exact due (State.tripAll_bounded .level [k] hs)
    | plantSample f => cases h; split; exacts [State.plantFrame_bounded f hs, received f]
    | dipWindowExpiry => cases h; exact due (State.dipBeat_bounded hs)
    | loweringWindowExpiry => cases h; exact due (State.changeBeat_bounded hs)
    | swapWindowExpiry => cases h; exact due (State.changeBeat_bounded hs)
    | followTrip k => cases h; exact due (State.tripAll_bounded .follow [k] (State.countFollow_bounded _ k hs))
    | masterActuatorFrame f => cases h; split; exacts [State.actuatorFrame_bounded _ f hs, received f]
    | statusSlotFrame f => cases h; split; exacts [hs, received f]
    | originate k => cases h; exact due (State.originStep_bounded k s hs)
    | retiredNodeClear => cases h; exact due hs
    | _ => cases hq

end

/-- Settles O53: an alarm joins the queue only while it has room, every count saturates, and the other events shorten the queue
or set counters to zero. -/
theorem queueAndCountersStayBounded : Obligations.QueueAndCountersStayBounded := by
  intro s t halarms hcounters h
  have hs : s.bounded := ⟨halarms, hcounters⟩
  unfold step at h
  split at h
  · cases h; exact hs
  · next rest _ =>
    have htaken : State.bounded { s with pending := rest } := hs
    exact exec_bounded htaken h

end Sys2Proof.Machine

/-! The requests ALARM_POP, COUNTERS_READ and WATCH (R169 to R171). -/

namespace Sys2Proof.Machine

/-! ## The words of a popped record -/

/-- The two words of a stamp, high word first (R169). -/
theorem stamp_words (b : BitVec 32) :
    b.extractLsb' 16 16 = word (b.toNat / 65536) ∧ b.extractLsb' 0 16 = word b.toNat := by
  constructor <;> apply BitVec.eq_of_toNat_eq <;> simp [word, Nat.shiftRight_eq_div_pow]

/-- The words of a record, its strand as its number or 255 (R169). -/
theorem Alarm.words_eq : Alarm.words = fun a => [word (a.stamp.toNat / 65536), word a.stamp.toNat,
    word (a.kind.code * 256 + (match a.strand with | some k => k.val | none => 255)), word a.detail] := by
  funext a
  obtain ⟨hhigh, hlow⟩ := stamp_words a.stamp
  unfold Alarm.words
  rw [hhigh, hlow]
  cases a.strand <;> rfl

section
variable {s : State} {q : ReqHead} {w : Word}

/-! ## The owning rules -/

theorem alarmPopBody_range (h : w.toNat = 0 ∨ 8 < w.toNat) : alarmPopBody w s = .error .range := by
  unfold alarmPopBody
  rw [rangeWord_eq_none.mpr (by omega)]

theorem alarmPopBody_pops (h1 : 1 ≤ w.toNat) (h8 : w.toNat ≤ 8) :
    alarmPopBody w s = .ok ({ s with alarms := s.alarms.drop (min (min w.toNat s.alarms.length) 3) },
      word (min (min w.toNat s.alarms.length) 3)
        :: (s.alarms.take (min (min w.toNat s.alarms.length) 3)).flatMap Alarm.words) := by
  unfold alarmPopBody
  rw [rangeWord_eq_some.mpr ⟨rfl, h1, h8⟩]

theorem countersReadBody_range (h : 3 < w.toNat) : countersReadBody w s = .error .range := if_pos h

/-- Within their range the flags are bit 0, which clears, and bit 1, which is the group (R170). -/
theorem countersReadBody_flags (h : w.toNat ≤ 3) : countersReadBody w s =
    if w.getLsbD 1 then
      .ok (if w.getLsbD 0 then { s with counters := { s.counters with trips := Vector.replicate 8 0 } } else s,
        s.counters.group1)
    else .ok (if w.getLsbD 0 then { s with counters := { trips := s.counters.trips } } else s, s.counters.group0) :=
  if_neg (by omega)

theorem watchBody_none : watchBody 255 s = .ok ({ s with watch := none }, []) := rfl

theorem watchBody_strand {k : StrandId} (h : w.toNat = k.val) : watchBody w s = .ok ({ s with watch := some k }, []) := by
  have hw : w ≠ 255 := by
    rintro rfl
    have := k.isLt
    rw [← h] at this
    exact absurd this (by decide)
  rw [watchBody, if_neg hw, strandNumber_eq_some.mpr h]

theorem watchBody_range (h : 7 < w.toNat) (hw : w ≠ 255) : watchBody w s = .error .range := by
  rw [watchBody, if_neg hw, strandNumber_eq_none.mpr h]

end

/-- Settles O52: the checks and the accepted forms of the three requests, each read from its owning rule. -/
theorem alarmPopCountersAndWatch : Obligations.AlarmPopCountersAndWatch := by
  have refused : ∀ {s : State} {q : ReqHead} {code : Word} {body : State → Answer} {r : Result}, s.answers q →
      body s = .error r → (.next (s.answer code q body) : Outcome) = .next (s.reply code q r []) :=
    fun ha h => congrArg _ (State.answer_error ha h)
  have accepted : ∀ {s t : State} {q : ReqHead} {code : Word} {body : State → Answer} {d : List Word}, s.answers q →
      body s = .ok (t, d) → (.next (s.answer code q body) : Outcome) = .next (t.reply code q .ok d) :=
    fun ha h => congrArg _ (State.answer_ok ha h)
  refine ⟨fun s q n ha => ⟨fun h => refused ha (alarmPopBody_range h), fun h1 h8 => ?_⟩, fun s q w ha => ⟨fun h => ?_,
    fun h => ?_, fun h => ?_, fun h => ?_, fun h => ?_, fun h => ?_, fun k h => ?_, fun h hw => ?_⟩⟩
  · have hpops := accepted (code := 30) ha (alarmPopBody_pops h1 h8)
    rw [Alarm.words_eq] at hpops
    exact hpops
  · exact refused ha (countersReadBody_range h)
  iterate 4
    subst h
    exact accepted ha (countersReadBody_flags (by decide))
  · subst h
    exact accepted ha watchBody_none
  · exact accepted ha (watchBody_strand h)
  · exact refused ha (watchBody_range h hw)

end Sys2Proof.Machine

/-! What every operation leaves of the model's own queue (log entry 1), in the order of the definitions. -/

namespace Sys2Proof.Machine

/-! ## Choices, and steps over several strands -/

@[simp] theorem State.ite_pending (p : Prop) [Decidable p] (s t : State) :
    (if p then s else t).pending = if p then s.pending else t.pending := apply_ite State.pending p s t

@[simp] theorem forStrands_pending {f : StrandId → State → State} (h : ∀ k t, (f k t).pending = t.pending)
    (l : List StrandId) (s : State) : (forStrands l f s).pending = s.pending :=
  forStrands_induct (fun t => t.pending = s.pending) l f (fun k _ t ht => (h k t).trans ht) s rfl

/-- A change of records for each strand in turn: here simp does not find the premise of `forStrands_pending` by itself. -/
@[simp] theorem forStrands_upd_pending (g : StrandId → Strand → Strand) (l : List StrandId) (s : State) :
    (forStrands l (fun k s => s.upd k (g k)) s).pending = s.pending :=
  forStrands_pending (fun k t => State.upd_pending t k (g k)) l s

@[simp] theorem forStrands_updCtx_pending (g : StrandId → Context → Context) (l : List StrandId) (s : State) :
    (forStrands l (fun k s => s.updCtx k (g k)) s).pending = s.pending :=
  forStrands_pending (fun k t => State.updCtx_pending t k (g k)) l s

theorem State.near.pending {s t : State} (h : s.near t) : t.pending = s.pending := by
  unfold State.near at h; rw [h]

theorem State.sameRest.pending {s t : State} (h : s.sameRest t) : t.pending = s.pending := h.near.pending

section
variable (s : State) (k : StrandId)

/-! ## Segments and trips (R22 to R24, R36, R37, R95, R102) -/

@[simp] theorem State.applyOverride_pending : (s.applyOverride k).pending = s.pending := rfl

@[simp] theorem State.enterSegment_pending (n : Fin 8) : (s.enterSegment k n).pending = s.pending :=
  (State.enterSegment_sameRest k n s).pending

@[simp] theorem State.reload_pending : (s.reload k).pending = s.pending := (State.reload_sameRest k s).pending

@[simp] theorem State.tripOne_pending (why : Cause) : (s.tripOne why k).pending = s.pending :=
  (State.tripOne_near why k s).1.pending

@[simp] theorem State.settleChange_pending : s.settleChange.pending = s.pending := by simp [State.settleChange]

@[simp] theorem State.tripAll_pending (why : Cause) (ks : List StrandId) : (s.tripAll why ks).pending = s.pending := by
  simp [State.tripAll]

/-! ## The Change Coordinator (R94 to R101) -/

@[simp] theorem State.enroll_pending : (s.enroll k).pending = s.pending :=
  (State.applyOverride_pending _ k).trans (State.updCtx_pending s k _)

@[simp] theorem State.releaseChange_pending : s.releaseChange.pending = s.pending := by simp [State.releaseChange]

@[simp] theorem State.toAtLow_pending : s.toAtLow.pending = s.pending := by simp [State.toAtLow]

@[simp] theorem State.cancelLowering_pending : s.cancelLowering.pending = s.pending := by simp [State.cancelLowering]

@[simp] theorem State.expireLowering_pending : s.expireLowering.pending = s.pending := by simp [State.expireLowering]

@[simp] theorem State.expireSwap_pending : s.expireSwap.pending = s.pending := by simp [State.expireSwap]

@[simp] theorem State.countLowering_pending : s.countLowering.pending = s.pending := rfl

@[simp] theorem State.countSwap_pending : s.countSwap.pending = s.pending := rfl

@[simp] theorem State.changeBeat_pending : s.changeBeat.pending = s.pending := by
  unfold State.changeBeat
  split <;> simp

@[simp] theorem State.takeWeight_pending (w : Nat) : (s.takeWeight w).pending = s.pending := by
  unfold State.takeWeight
  split <;> simp

/-! ## The Dip Monitor (R107, R108, R111, R112) -/

@[simp] theorem State.dipBegin_pending : s.dipBegin.pending = s.pending := by simp [State.dipBegin]

@[simp] theorem State.reseedStrand_pending : (s.reseedStrand k).pending = s.pending :=
  (State.reseedStrand_sameRest k s).pending

@[simp] theorem State.dipEnd_pending : s.dipEnd.pending = s.pending := by simp [State.dipEnd]

@[simp] theorem State.takeDipFlag_pending (before now : Bool) : (s.takeDipFlag before now).pending = s.pending := by
  unfold State.takeDipFlag
  split <;> simp

@[simp] theorem State.countDip_pending : s.countDip.pending = s.pending := rfl

@[simp] theorem State.dipBeat_pending : s.dipBeat.pending = s.pending := by
  unfold State.dipBeat
  split <;> simp

/-! ## The Input Monitor (R75 to R89) -/

@[simp] theorem State.raiseLoss_pending (o : Option StrandId) (n : Nat) (a b : LossState) :
    (s.raiseLoss o n a b).pending = s.pending := (State.raiseLoss_near s o n a b).pending

@[simp] theorem State.setInput_pending (after : StrandInput) : (s.setInput k after).pending = s.pending := by
  simp [State.setInput]

@[simp] theorem State.setPlantInput_pending (after : PlantInput) : (s.setPlantInput after).pending = s.pending := by
  simp [State.setPlantInput]

@[simp] theorem State.takeBreakout_pending (before flag : Bool) : (s.takeBreakout k before flag).pending = s.pending := by
  unfold State.takeBreakout
  split
  · split <;> simp
  · rfl

@[simp] theorem State.takeConfirm_pending (flag : Bool) : (s.takeConfirm k flag).pending = s.pending :=
  (State.takeConfirm_sameRest k flag s).pending

@[simp] theorem State.levelGate_pending (level : Int) : (s.levelGate k level).pending = s.pending := by
  simp [State.levelGate]

@[simp] theorem State.takeSensor_pending (x : SensorReading) : (s.takeSensor k x).pending = s.pending := by
  simp [State.takeSensor, State.takeFreshSensor]

@[simp] theorem State.takePlant_pending (x : PlantReading) : (s.takePlant x).pending = s.pending := by
  simp [State.takePlant]

@[simp] theorem State.ageStrand_pending : (s.ageStrand k).pending = s.pending := by simp [State.ageStrand]

@[simp] theorem State.inputBeat_pending : s.inputBeat.pending = s.pending := by simp [State.inputBeat]

@[simp] theorem State.countFollow_pending (acc : Nat) : (s.countFollow acc k).pending = s.pending := by
  simp [State.countFollow]

@[simp] theorem State.followBeat_pending (i : Nat) (acc : StrandId → Nat) : (s.followBeat i acc).pending = s.pending := by
  simp [State.followBeat]

/-! ## Handback and claims (R133 to R142) -/

@[simp] theorem State.leaveByHandback_pending : (s.leaveByHandback k).pending = s.pending := by
  simp [State.leaveByHandback, State.shadowReturn]

@[simp] theorem State.blendStep_pending : (s.blendStep k).pending = s.pending := (State.blendStep_near k s).1.pending

@[simp] theorem State.takeClaim_pending : (s.takeClaim k).state.pending = s.pending := by
  unfold State.takeClaim
  split
  · simp [State.grantClaim]
  · split <;> rfl

/-! ## The admission pass (R60 to R71) -/

@[simp] theorem State.passCompleted_pending (i : Nat) : (s.passCompleted i).pending = s.pending :=
  (State.passCompleted_near i s).pending

@[simp] theorem State.movePointer_pending (won : List StrandId) : (s.movePointer won).pending = s.pending := by
  unfold State.movePointer
  split <;> rfl

@[simp] theorem State.raiseStarved_pending (l : List (StrandId × Bool)) : (s.raiseStarved l).pending = s.pending :=
  (State.raiseStarved_near l s).1.pending

@[simp] theorem State.countDeficit_pending : s.countDeficit.pending = s.pending := by simp [State.countDeficit]

@[simp] theorem State.admissionPass_pending (i : Nat) : (s.admissionPass i).pending = s.pending := by
  simp [State.admissionPass_eq]

/-! ## Beats (R117 to R125, R155, R156) -/

@[simp] theorem State.originStep_pending : (s.originStep k).pending = s.pending := by
  unfold State.originStep
  split
  · dsimp only
    split <;> simp
  · rfl

@[simp] theorem State.countRetired_pending : s.countRetired.pending = s.pending := rfl

@[simp] theorem State.sendBeat_pending : s.sendBeat.pending = s.pending := by simp [State.sendBeat]

@[simp] theorem State.lineBeat_pending : s.lineBeat.pending = s.pending := by simp [State.lineBeat]

@[simp] theorem State.blockBeat_pending (i : Nat) (acc : StrandId → Nat) (b : Block) :
    (s.blockBeat i acc b).pending = s.pending := by
  cases b <;> simp [State.blockBeat]

theorem State.blocks_pending (i : Nat) (acc : StrandId → Nat) (order : List Block) (s : State) :
    (order.foldl (State.blockBeat i acc) s).pending = s.pending := by
  induction order generalizing s with
  | nil => rfl
  | cons b order ih => exact (ih _).trans (State.blockBeat_pending s i acc b)

@[simp] theorem State.deliverBeat_pending : s.deliverBeat.pending = s.pending :=
  State.blocks_pending s.fresh _ _ { s with beats := s.beats + 1, fresh := s.fresh + 1 }

@[simp] theorem State.setMonitor_pending (src : Source) (m : Monitor) : (s.setMonitor src m).pending = s.pending := by
  cases src <;> rfl

@[simp] theorem State.clearFail_pending : s.clearFail.pending = s.pending := by
  simp [State.clearFail, State.removeEverywhere]

@[simp] theorem State.completeSwitch_pending (src : Source) : (s.completeSwitch src).pending = s.pending := by
  simp [State.completeSwitch]

@[simp] theorem State.sourceBeat_pending (src : Source) (t : Nat) : (s.sourceBeat src t).pending = s.pending := by
  simp [State.sourceBeat]

@[simp] theorem State.localBeat_pending : s.localBeat.pending = s.pending := by
  unfold State.localBeat
  split
  · rfl
  · simp

@[simp] theorem State.failover_pending (src : Source) : (s.failover src).pending = s.pending := by
  simp [State.failover, State.addEverywhere]

@[simp] theorem State.sourceSilence_pending (src : Source) : (s.sourceSilence src).pending = s.pending := by
  simp [State.sourceSilence]

/-! ## The resets and the end of the load -/

@[simp] theorem State.powerOn_pending : s.powerOn.pending = s.pending := rfl

@[simp] theorem State.warmReset_pending : s.warmReset.pending = s.pending := by simp [State.warmReset]

@[simp] theorem State.endLoad_pending (t : Nat) : (s.endLoad t).pending = s.pending := by simp [State.endLoad]

/-! ## Frames of the owned slots (R152 to R154) -/

@[simp] theorem State.sensorFrame_pending (f : Frame) : (s.sensorFrame k f).pending = s.pending := by
  unfold State.sensorFrame
  split <;> simp

@[simp] theorem State.plantFrame_pending (f : Frame) : (s.plantFrame f).pending = s.pending := by
  unfold State.plantFrame
  split <;> simp

@[simp] theorem State.statusFrame_pending (f : Frame) : (s.statusFrame f).pending = s.pending := rfl

@[simp] theorem State.sendActuator_pending (f : Frame) (values : List Word) (control : Word) (granted : Bool) :
    (s.sendActuator k f values control granted).pending = s.pending := by
  simp [State.sendActuator]

@[simp] theorem State.actuatorFrame_pending (f : Frame) : (s.actuatorFrame k f).pending = s.pending := by
  unfold State.actuatorFrame
  split
  · simp [apply_ite Claimed.state]
  · rfl

@[simp] theorem State.countBadCheck_pending : s.countBadCheck.pending = s.pending := rfl

@[simp] theorem State.countMalformed_pending : s.countMalformed.pending = s.pending := rfl

end

end Sys2Proof.Machine

/-! Every request and every command, against the model's own queue (log entry 1). -/

namespace Sys2Proof.Machine

/-! ## Requests -/

/-- The owning rule of a request taken in state s, where it accepts, leaves the queue as it was. -/
def Answer.keepsQueue (s : State) : Answer → Prop
  | .ok (t, _) => t.pending = s.pending
  | .error _ => True

section
variable {s t : State}

@[simp] theorem Answer.keepsQueue_ok {d : List Word} : Answer.keepsQueue s (.ok (t, d)) ↔ t.pending = s.pending := Iff.rfl

@[simp] theorem Answer.keepsQueue_error {r : Result} : Answer.keepsQueue s (.error r) := trivial

@[simp] theorem Answer.keepsQueue_ite {p : Prop} [Decidable p] {a b : Answer} :
    Answer.keepsQueue s (if p then a else b) ↔ if p then Answer.keepsQueue s a else Answer.keepsQueue s b := by
  split <;> rfl

end

section
variable (s : State) (k : StrandId)

/-- A request is answered by its owning rule, or refused, and its reply leaves the queue (R148, R157). -/
theorem State.answer_pending (code : Word) (q : ReqHead) {body : State → Answer} (h : Answer.keepsQueue s (body s)) :
    (s.answer code q body).pending = s.pending := by
  rcases State.answer_cases s code q body with ⟨-, e⟩ | ⟨-, -, e⟩ | ⟨-, -, ⟨r, -, e⟩ | ⟨t, d, hb, e⟩⟩ <;> rw [e]
  · exact State.reply_pending s _ _ _ _
  · exact State.reply_pending s _ _ _ _
  · rw [hb] at h
    exact h

@[simp] theorem State.refuseLength_pending (code : Word) (q : ReqHead) : (s.refuseLength code q).pending = s.pending := rfl

@[simp] theorem State.refuseUnknown_pending (code : Word) (q : ReqHead) : (s.refuseUnknown code q).pending = s.pending := rfl

theorem State.answerSized_pending (code : Word) (q : ReqHead) (ok : Bool) {body : State → Answer}
    (h : Answer.keepsQueue s (body s)) : (s.answerSized code q ok body).pending = s.pending := by
  simp [State.answerSized, State.answer_pending s code q h]

theorem State.strandRequest_pending (code : Word) (q : ReqHead) (w : Word) {body : StrandId → State → Answer}
    (h : ∀ k, Answer.keepsQueue s (body k s)) : (s.answer code q (State.strandRequest w body)).pending = s.pending := by
  refine State.answer_pending s code q ?_
  unfold State.strandRequest
  split
  · exact h _
  · trivial

/-! ### Strand requests -/

theorem trackBody_keepsQueue : Answer.keepsQueue s (trackBody k s) := by simp [trackBody]

theorem untrackBody_keepsQueue : Answer.keepsQueue s (untrackBody k s) := by simp [untrackBody]

@[simp] theorem State.beginRun_pending (p : ProfileId) (shadow : Bool) (v : Nat) (lim : Limits) :
    (s.beginRun k p shadow v lim).pending = s.pending := by
  simp [State.beginRun]

theorem startBody_keepsQueue (p shadow : Word) : Answer.keepsQueue s (startBody p shadow k s) := by
  unfold startBody
  cases s.limits with
  | none => simp
  | some lim =>
    cases s.validProfile p with
    | none => simp
    | some n =>
      dsimp only
      cases (s.strand k).seed <;> simp

theorem holdBody_keepsQueue : Answer.keepsQueue s (holdBody k s) := by simp [holdBody]

theorem releaseBody_keepsQueue : Answer.keepsQueue s (releaseBody k s) := by simp [releaseBody]

theorem clearTripBody_keepsQueue : Answer.keepsQueue s (clearTripBody k s) := by simp [clearTripBody]

theorem readContextBody_keepsQueue : Answer.keepsQueue s (readContextBody k s) := rfl

theorem coolPinBody_keepsQueue (w : Word) : Answer.keepsQueue s (coolPinBody w k s) := by
  unfold coolPinBody
  split <;> simp

theorem handbackBody_keepsQueue : Answer.keepsQueue s (handbackBody k s) := by simp [handbackBody]

/-! ### Requests to the arbiter, the coordinator and the Beat Unit -/

theorem setArbiterBody_keepsQueue (m : Word) (pr : Vector Word 8) : Answer.keepsQueue s (setArbiterBody m pr s) := by
  unfold setArbiterBody
  cases flagWord m <;> simp

theorem changeBeginBody_keepsQueue : Answer.keepsQueue s (changeBeginBody s) := by simp [changeBeginBody]

theorem changeCancelBody_keepsQueue : Answer.keepsQueue s (changeCancelBody s) := by
  unfold changeCancelBody
  split <;> simp

theorem swapConfirmBody_keepsQueue : Answer.keepsQueue s (swapConfirmBody s) := by
  unfold swapConfirmBody
  split <;> simp

theorem sourceSelectBody_keepsQueue (n keep : Word) : Answer.keepsQueue s (sourceSelectBody n keep s) := by
  unfold sourceSelectBody
  cases sourceWord n <;> cases flagWord keep <;> simp

theorem sourceCancelBody_keepsQueue : Answer.keepsQueue s (sourceCancelBody s) := by
  unfold sourceCancelBody
  split <;> simp

theorem sourceFreezeBody_keepsQueue : Answer.keepsQueue s (sourceFreezeBody s) := rfl

theorem setBeatPeriodBody_keepsQueue (p : Word) (n : Nat) : Answer.keepsQueue s (setBeatPeriodBody p n s) := by
  unfold setBeatPeriodBody
  cases rangeWord 4 40 p <;> simp

theorem failClearBody_keepsQueue : Answer.keepsQueue s (failClearBody s) := by simp [failClearBody]

/-! ### Requests to the store -/

theorem tableOpenBody_keepsQueue : Answer.keepsQueue s (tableOpenBody s) := by simp [tableOpenBody]

theorem tableCloseBody_keepsQueue : Answer.keepsQueue s (tableCloseBody s) := rfl

/-- TABLE_WRITE replaces the working image alone (R161). -/
theorem State.writeTable_keepsQueue (guarded inUse locked : Bool) (image : Option Image) :
    Answer.keepsQueue s (s.writeTable guarded inUse locked image) := by
  unfold State.writeTable
  cases image <;> simp

theorem writeSegmentBody_keepsQueue (n : Word) (fs : List Word) : Answer.keepsQueue s (writeSegmentBody n fs s) := by
  unfold writeSegmentBody
  split <;> exact State.writeTable_keepsQueue s _ _ _ _

theorem writeProfileBody_keepsQueue (n : Word) (fs : List Word) : Answer.keepsQueue s (writeProfileBody n fs s) := by
  unfold writeProfileBody
  split <;> exact State.writeTable_keepsQueue s _ _ _ _

theorem writeCoolingBody_keepsQueue (n : Word) (fs : List Word) : Answer.keepsQueue s (writeCoolingBody n fs s) := by
  unfold writeCoolingBody
  split <;> exact State.writeTable_keepsQueue s _ _ _ _

theorem tableReadBody_keepsQueue (kind n : Word) : Answer.keepsQueue s (tableReadBody kind n s) := by
  unfold tableReadBody
  split <;> simp

theorem protectSetBody_keepsQueue (r c l : Word) (key : KeyPos) : Answer.keepsQueue s (protectSetBody r c l key s) := by
  unfold protectSetBody
  cases rangeWord 0 7 r <;> cases flagWord c <;> cases flagWord l <;> simp

theorem commitBody_keepsQueue : Answer.keepsQueue s (commitBody s) := by simp [commitBody]

theorem limitsLockBody_keepsQueue : Answer.keepsQueue s (limitsLockBody s) := by
  unfold limitsLockBody
  cases s.limits <;> simp

/-! ### Requests to the line and to the alarm queue -/

theorem setNodeBody_keepsQueue (n : Word) : Answer.keepsQueue s (setNodeBody n s) := by
  unfold setNodeBody
  cases rangeWord 1 254 n <;> simp

theorem setSlotBaseBody_keepsQueue (b : Word) : Answer.keepsQueue s (setSlotBaseBody b s) := by
  unfold setSlotBaseBody
  cases rangeWord 0 238 b <;> simp

theorem setStrandMaskBody_keepsQueue (m : Word) : Answer.keepsQueue s (setStrandMaskBody m s) := by
  unfold setStrandMaskBody
  cases rangeWord 0 255 m <;> simp

theorem alarmPopBody_keepsQueue (n : Word) : Answer.keepsQueue s (alarmPopBody n s) := by
  unfold alarmPopBody
  split <;> simp

theorem countersReadBody_keepsQueue (n : Word) : Answer.keepsQueue s (countersReadBody n s) := by simp [countersReadBody]

theorem watchBody_keepsQueue (w : Word) : Answer.keepsQueue s (watchBody w s) := by
  unfold watchBody
  cases strandNumber w <;> simp

/-! ### The answer to a request -/

/-- Every request leaves the queue: its owning rule does, and so does its reply. -/
@[simp] theorem State.runRequest_pending (i : Instr) : (s.runRequest i).pending = s.pending := by
  cases i with
  | partReset q => simp [State.runRequest, execPartReset]
  | track q w => exact State.strandRequest_pending s _ _ w (trackBody_keepsQueue s)
  | untrack q w => exact State.strandRequest_pending s _ _ w (untrackBody_keepsQueue s)
  | start q w p sh => exact State.strandRequest_pending s _ _ w fun k => startBody_keepsQueue s k p sh
  | hold q w => exact State.strandRequest_pending s _ _ w (holdBody_keepsQueue s)
  | release q w => exact State.strandRequest_pending s _ _ w (releaseBody_keepsQueue s)
  | clearTrip q w => exact State.strandRequest_pending s _ _ w (clearTripBody_keepsQueue s)
  | readContext q w => exact State.strandRequest_pending s _ _ w (readContextBody_keepsQueue s)
  | setArbiter q m pr => exact State.answer_pending s _ _ (setArbiterBody_keepsQueue s m pr)
  | coolPin q w t => exact State.strandRequest_pending s _ _ w fun k => coolPinBody_keepsQueue s k t
  | changeBegin q => exact State.answer_pending s _ _ (changeBeginBody_keepsQueue s)
  | changeCancel q => exact State.answer_pending s _ _ (changeCancelBody_keepsQueue s)
  | swapConfirm q => exact State.answer_pending s _ _ (swapConfirmBody_keepsQueue s)
  | sourceSelect q n keep => exact State.answer_pending s _ _ (sourceSelectBody_keepsQueue s n keep)
  | sourceCancel q => exact State.answer_pending s _ _ (sourceCancelBody_keepsQueue s)
  | sourceFreeze q => exact State.answer_pending s _ _ (sourceFreezeBody_keepsQueue s)
  | setBeatPeriod q p t => exact State.answer_pending s _ _ (setBeatPeriodBody_keepsQueue s p t)
  | failClear q => exact State.answer_pending s _ _ (failClearBody_keepsQueue s)
  | handback q w => exact State.strandRequest_pending s _ _ w (handbackBody_keepsQueue s)
  | setNode q n => exact State.answer_pending s _ _ (setNodeBody_keepsQueue s n)
  | setSlotBase q b => exact State.answer_pending s _ _ (setSlotBaseBody_keepsQueue s b)
  | setStrandMask q m => exact State.answer_pending s _ _ (setStrandMaskBody_keepsQueue s m)
  | tableOpen q => exact State.answer_pending s _ _ (tableOpenBody_keepsQueue s)
  | tableClose q => exact State.answer_pending s _ _ (tableCloseBody_keepsQueue s)
  | tableWriteSegment q n fs => exact State.answerSized_pending s _ _ _ (writeSegmentBody_keepsQueue s n fs)
  | tableWriteProfile q n fs => exact State.answerSized_pending s _ _ _ (writeProfileBody_keepsQueue s n fs)
  | tableWriteCooling q n fs => exact State.answerSized_pending s _ _ _ (writeCoolingBody_keepsQueue s n fs)
  | tableWritePlant q n fs => exact State.answerSized_pending s _ _ _ (State.writeTable_keepsQueue s _ _ _ _)
  | tableWriteLimits q n fs => exact State.answerSized_pending s _ _ _ (State.writeTable_keepsQueue s _ _ _ _)
  | tableRead q kind n => exact State.answer_pending s _ _ (tableReadBody_keepsQueue s kind n)
  | commit q => exact State.answer_pending s _ _ (commitBody_keepsQueue s)
  | protectSet q r c l key => exact State.answer_pending { s with key } _ _ (protectSetBody_keepsQueue { s with key } r c l key)
  | limitsLock q => exact State.answer_pending s _ _ (limitsLockBody_keepsQueue s)
  | alarmPop q n => exact State.answer_pending s _ _ (alarmPopBody_keepsQueue s n)
  | countersRead q fl => exact State.answer_pending s _ _ (countersReadBody_keepsQueue s fl)
  | watch q w => exact State.answer_pending s _ _ (watchBody_keepsQueue s w)
  | _ => rfl

/-! ## Frames on UP -/

@[simp] theorem State.requestFrame_pending (f : Frame) : (s.requestFrame f).pending = s.pending := by
  unfold State.requestFrame
  split
  · rfl
  · rfl
  · exact State.runRequest_pending s _
  · exact State.answer_pending s _ _ (State.writeTable_keepsQueue s _ _ _ _)

@[simp] theorem State.receive_pending (f : Frame) : (s.receive f).pending = s.pending := by
  unfold State.receive
  split <;> simp

/-! ## All commands -/

/-- Every command answers a next state with the queue as it was: a request by its owning rule and its reply, a frame row by what its
frame is judged to be, and an event row by the event it names, where that is due. -/
theorem exec_completes (c : Instr) : ∃ t, exec c s = .next t ∧ t.pending = s.pending := by
  have due : ∀ {p : Prop} [Decidable p] {u : State}, u.pending = s.pending → (if p then u else s).pending = s.pending :=
    fun hu => by rw [State.ite_pending, hu, ite_self]
  have received := State.receive_pending s
  cases hq : c.head with
  | some q => exact ⟨_, exec_request hq s, State.runRequest_pending s c⟩
  | none =>
    cases c with
    | powerOnReset => exact ⟨_, rfl, State.powerOn_pending s⟩
    | startUpLoadDone n => exact ⟨_, rfl, due (State.endLoad_pending s n)⟩
    | warmReset => exact ⟨_, rfl, State.warmReset_pending s⟩
    | commitDone => exact ⟨_, rfl, by split; exacts [State.raise_pending _ _ _ _, rfl]⟩
    | lockDone => exact ⟨_, rfl, by split; exacts [State.raise_pending _ _ _ _, rfl]⟩
    | unknownRequest f => exact ⟨_, rfl, by split; exacts [State.requestFrame_pending s f, received f]⟩
    | badCheckFrame words => exact ⟨_, rfl, by split; exacts [rfl, received _]⟩
    | ownFrameReturn f => exact ⟨_, rfl, by split; exacts [rfl, received f]⟩
    | passThroughFrame f => exact ⟨_, rfl, by split; exacts [State.send_pending s f, received f]⟩
    | malformedFrame f => exact ⟨_, rfl, by split; exacts [State.send_pending _ f, received f]⟩
    | beatFrame f n => exact ⟨_, rfl, by split; exacts [State.sourceBeat_pending _ .line n, received f]⟩
    | pulseEdge n => exact ⟨_, rfl, State.sourceBeat_pending s .pulse n⟩
    | localExpiry => exact ⟨_, rfl, State.localBeat_pending s⟩
    | sourceSilent src => exact ⟨_, rfl, State.sourceSilence_pending s src⟩
    | switchComplete n =>
      exact ⟨_, rfl, by split; exacts [rfl, State.localBeat_pending s, due (State.sourceBeat_pending s _ n)]⟩
    | blendComplete k => exact ⟨_, rfl, by split; exacts [due (State.blendStep_pending s k), rfl]⟩
    | starved k => exact ⟨_, rfl, due (State.raise_pending _ _ _ _)⟩
    | deficit => exact ⟨_, rfl, due (State.countDeficit_pending s)⟩
    | inputSilence i => exact ⟨_, rfl, by cases i <;> simp⟩
    | sensorSample f => exact ⟨_, rfl, by split; exacts [State.sensorFrame_pending s _ f, received f]⟩
    | levelFrozen k => exact ⟨_, rfl, due (State.setInput_pending s k _)⟩
    | inputClear i => exact ⟨_, rfl, by cases i <;> simp⟩
    | levelTrip k => exact ⟨_, rfl, due (State.tripAll_pending s .level [k])⟩
    | plantSample f => exact ⟨_, rfl, by split; exacts [State.plantFrame_pending s f, received f]⟩
    | dipWindowExpiry => exact ⟨_, rfl, due (State.dipBeat_pending s)⟩
    | loweringWindowExpiry => exact ⟨_, rfl, due (State.changeBeat_pending s)⟩
    | swapWindowExpiry => exact ⟨_, rfl, due (State.changeBeat_pending s)⟩
    | followTrip k => exact ⟨_, rfl, by simp⟩
    | masterActuatorFrame f => exact ⟨_, rfl, by split; exacts [State.actuatorFrame_pending s _ f, received f]⟩
    | statusSlotFrame f => exact ⟨_, rfl, by split; exacts [State.statusFrame_pending s f, received f]⟩
    | originate k => exact ⟨_, rfl, due (State.originStep_pending s k)⟩
    | retiredNodeClear => exact ⟨_, rfl, due (State.countRetired_pending s)⟩
    | _ => cases hq

end

/-- Settles O2: every row by its own event, each of which leaves the queue. -/
theorem everyCommandCompletes : Obligations.EveryCommandCompletes := fun c s => exec_completes s c

/-- Settles O1: a step by the queue it finds, with a front command and empty. -/
theorem stepTakesTheFrontCommand : Obligations.StepTakesTheFrontCommand := by
  refine ⟨fun c rest s => rfl, fun s hempty => ?_⟩
  unfold step
  rw [hempty]

end Sys2Proof.Machine
